-- ==== Sys2Proof/Word.lean ====
section
/-! DEFINITION. The word types of the 65C816 and the two operand widths (00_scope.md R8 to R10). -/

namespace Sys2Proof

/-- `u8` of R8. -/
abbrev Byte := BitVec 8

/-- `u16` of R8. -/
abbrev Word := BitVec 16

/-- `u24` of R8: a bank byte and a 16-bit offset (R7). -/
abbrev Addr := BitVec 24

/-- The widths `wM` and `wX` take (R10). -/
inductive Width where
  | w8
  | w16
  deriving DecidableEq, Repr

/-- The constant of an m-sized or x-sized immediate: one byte or two (30_encoding.md R74). -/
inductive Imm where
  | byte (v : Byte)
  | word (v : Word)
  deriving DecidableEq, Repr

end Sys2Proof
end

