-- ==== Sys2Proof/Machine/Bits.lean ====
section
/-! DEFINITION. Bit fields, sign extension, byte order, the successor functions and the
width-dependent views of a value (00_scope.md R8, R9, R13; 20_memory.md R54, R57). A value of
width 8 is held in a `Word` whose high byte is zero (notes/assumptions/8.md). -/

namespace Sys2Proof.Machine

/-- `lo(v)` of R9. -/
def lo (v : Word) : Byte := v.extractLsb' 0 8

/-- `hi(v)` of R9. -/
def hi (v : Word) : Byte := v.extractLsb' 8 8

/-- `h ‖ l` of R8: the word whose high byte is `h`. -/
def word (h l : Byte) : Word := h ++ l

/-- `b ‖ o` of R8: the 24-bit address with bank `b` and offset `o`. -/
def addr (b : Byte) (o : Word) : Addr := b ++ o

/-- The bank of a 24-bit address, bits 23 to 16 (R14). -/
def bankOf (a : Addr) : Byte := a.extractLsb' 16 8

/-- The offset of a 24-bit address, bits 15 to 0 (R8). -/
def offsetOf (a : Addr) : Word := a.extractLsb' 0 16

/-- `b2 ‖ b1 ‖ b0` of R71 and R103: 24 bits read low byte first. -/
def long (b2 b1 b0 : Byte) : Addr := addr b2 (word b1 b0)

/-- `sext_16(r8)` of R9. -/
def sext (r : Byte) : Word := r.signExtend 16

/-- `zext_16(v)` of R9. -/
def zext (v : Byte) : Word := word 0 v

/-- A 16-bit index as a 24-bit addend, for `a +24 X` (R9, R106). -/
def indexAddend (v : Word) : Addr := addr 0 v

/-- `NextLong` of R57: carries into the bank. -/
def nextLong (a : Addr) : Addr := a + 1

/-- `NextBank0` of R57: stays in bank 0. -/
def nextBank0 (a : Addr) : Addr := addr 0 (offsetOf a + 1)

/-- `NextInBank` of R57: stays in the bank of `a`. -/
def nextInBank (a : Addr) : Addr := addr (bankOf a) (offsetOf a + 1)

/-- `v[w-1:0]` (R8), held in a `Word`. -/
def trunc (w : Width) (v : Word) : Word :=
  match w with
  | .w8 => zext (lo v)
  | .w16 => v

/-- `mask_w` of R9. -/
def maskOf (w : Width) : Word :=
  match w with
  | .w8 => 0x00FF
  | .w16 => 0xFFFF

/-- `msb_w(v)`: bit `w-1` (R9). -/
def msb (w : Width) (v : Word) : Bool :=
  match w with
  | .w8 => v.getLsbD 7
  | .w16 => v.getLsbD 15

/-- Bit `w-2`, the source of `V` in `BIT` (41_arithmetic_logic.md R139). -/
def msb2 (w : Width) (v : Word) : Bool :=
  match w with
  | .w8 => v.getLsbD 6
  | .w16 => v.getLsbD 14

/-- `v[w-1:0] = 0` (R13). -/
def isZero (w : Width) (v : Word) : Bool := trunc w v == 0

/-- The 16-bit constant of a decoded immediate (40_addressing.md R90: `Imm(v: u16)`). -/
def immValue : Imm → Word
  | .byte v => zext v
  | .word v => v

end Sys2Proof.Machine
end

