-- ==== Sys2Proof/Machine/Flags.lean ====
section
/-! DEFINITION. The arithmetic unit: results with their overflow and carry, computed on integers and
narrowed at the end (41_arithmetic_logic.md R131 to R133; 43_shift_rotate.md R191 to R194). -/

namespace Sys2Proof.Machine

/-- A result of width `w` with the overflow and carry of its computation. -/
structure AluOut where
  res : Word
  v : Bool
  c : Bool
  deriving DecidableEq, Repr

/-- `2^w`. -/
def limit (w : Width) : Int :=
  match w with
  | .w8 => 0x100
  | .w16 => 0x10000

/-- The integer of a carry flag. -/
def carryInt (c : Bool) : Int := if c then 1 else 0

/-- `(~(a ^ m) & (a ^ r))[w-1]` on two's-complement patterns (R131). -/
def overflow (w : Width) (a m : Word) (r : Int) : Bool :=
  msb w (~~~(a ^^^ m) &&& (a ^^^ BitVec.ofInt 16 r))

/-- `r mod 2^w` (R131). -/
def narrow (w : Width) (r : Int) : Word := trunc w (BitVec.ofInt 16 r)

/-- The sum in binary mode (R131, R132 with `P.D = 0`). -/
def addBinary (w : Width) (a m : Word) (c : Bool) : AluOut :=
  let r : Int := a.toNat + m.toNat + carryInt c
  { res := narrow w r, v := overflow w a m r, c := decide (r ≥ limit w) }

/-- The digit of `v` with weight `b` (a power of 16), times its weight: `v & (0x0F * b)`. -/
def digitAt (v : Word) (b : Int) : Int := (v.toNat : Int) / b % 16 * b

/-- The decimal correction of addition at the digit with weight `b` (R131): for `b = 16`,
`if r > 0x9F then r + 0x60`. -/
def fixAdd (b r : Int) : Int := if r > 10 * b - 1 then r + 6 * b else r

/-- The decimal correction of subtraction at the digit with weight `b` (R132): for `b = 16`,
`if r <= 0xFF then r - 0x60`. -/
def fixSub (b r : Int) : Int := if r ≤ 16 * b - 1 then r - 6 * b else r

/-- The sum up to the digit with weight `b`, before its correction, from the corrected sum `r` of
the digits below: their carry and their low digits are kept (R131: `k` and `r & (b - 1)`). -/
def digitStep (a m : Word) (b r : Int) : Int :=
  digitAt a b + digitAt m b + (if r > b - 1 then b else 0) + r % b

/-- The sum of the lowest digit (R131). -/
def digitFirst (a m : Word) (c : Bool) : Int := digitAt a 1 + digitAt m 1 + carryInt c

/-- The weight of the highest digit of a width. -/
def topWeight (w : Width) : Int :=
  match w with
  | .w8 => 0x10
  | .w16 => 0x1000

/-- The sum before the correction of the highest digit, from which `V` is computed (R131, R132). -/
def decimalTop (fix : Int → Int → Int) (w : Width) (a m : Word) (c : Bool) : Int :=
  let r1 := digitStep a m 0x10 (fix 0x1 (digitFirst a m c))
  match w with
  | .w8 => r1
  | .w16 =>
    let r2 := digitStep a m 0x100 (fix 0x10 r1)
    digitStep a m 0x1000 (fix 0x100 r2)

/-- The sum in decimal mode (R131, R132 with `P.D = 1`). -/
def addDecimal (fix : Int → Int → Int) (w : Width) (a m : Word) (c : Bool) : AluOut :=
  let top := decimalTop fix w a m c
  let r := fix (topWeight w) top
  { res := narrow w r, v := overflow w a m top, c := decide (r > limit w - 1) }

/-- `ADC` (R131): `d` is `P.D`, `a` and `m` are values of width `w`. -/
def adcOut (d : Bool) (w : Width) (a m : Word) (c : Bool) : AluOut :=
  if d then addDecimal fixAdd w a m c else addBinary w a m c

/-- `SBC` (R132): the one's complement of the operand at width `w` is added. -/
def sbcOut (d : Bool) (w : Width) (a m : Word) (c : Bool) : AluOut :=
  let n := m ^^^ maskOf w
  if d then addDecimal fixSub w a n c else addBinary w a n c

/-- The difference a compare takes `Z` and `N` from (R133). -/
def compareDiff (w : Width) (a m : Word) : Word := trunc w (a - m)

/-- The carry of a compare: unsigned `a >= m` (R133). -/
def compareCarry (a m : Word) : Bool := decide (m.toNat ≤ a.toNat)

/-- `2^(w-1)`, the top bit of a width. -/
def topBit (w : Width) : Word :=
  match w with
  | .w8 => 0x0080
  | .w16 => 0x8000

/-- `(v << 1) & mask_w` (R191). -/
def shiftLeft (w : Width) (v : Word) : Word := trunc w (v <<< 1)

/-- `v >> 1` (R192). -/
def shiftRight (v : Word) : Word := v >>> 1

/-- `((v << 1) | c) & mask_w` (R193). -/
def rotateLeft (w : Width) (v : Word) (c : Bool) : Word :=
  trunc w (v <<< 1 ||| (if c then 1 else 0))

/-- `(v >> 1) | (c << (w-1))` (R194). -/
def rotateRight (w : Width) (v : Word) (c : Bool) : Word :=
  v >>> 1 ||| (if c then topBit w else 0)

end Sys2Proof.Machine
end

