-- ==== Sys2Proof/Machine/Modes.lean ====
section
/-! DEFINITION. The 32 addressing modes (30_encoding.md R73), each with the operand bytes it carries,
and the operations of the opcode map (R76). -/

namespace Sys2Proof

/-- The modes whose locator is an operand: a value, memory or the accumulator (40_addressing.md
R90). -/
inductive DataMode where
  /-- `A` (R93). -/
  | acc
  /-- `#const` (R94). -/
  | immM (v : Imm)
  /-- `#const` (R95). -/
  | immX (v : Imm)
  /-- `#const` (R96). -/
  | imm8 (v : Byte)
  /-- `#sig` (R96). -/
  | sig (v : Byte)
  /-- `d` (R97). -/
  | dp (d : Byte)
  /-- `d,X` (R98). -/
  | dpx (d : Byte)
  /-- `d,Y` (R99). -/
  | dpy (d : Byte)
  /-- `(d)` (R100). -/
  | dpind (d : Byte)
  /-- `(d,X)` (R101). -/
  | dpindx (d : Byte)
  /-- `(d),Y` (R102). -/
  | dpindy (d : Byte)
  /-- `[d]` (R103). -/
  | dpindl (d : Byte)
  /-- `[d],Y` (R104). -/
  | dpindly (d : Byte)
  /-- `a` (R105). -/
  | abs (a : Word)
  /-- `a,X` (R106). -/
  | absx (a : Word)
  /-- `a,Y` (R107). -/
  | absy (a : Word)
  /-- `al` (R108). -/
  | absl (al : Addr)
  /-- `al,X` (R109). -/
  | abslx (al : Addr)
  /-- `d,S` (R110). -/
  | sr (d : Byte)
  /-- `(d,S),Y` (R111). -/
  | sriy (d : Byte)
  /-- `(d)` (R120). -/
  | pei (d : Byte)
  /-- `a` (R121). -/
  | pea (a : Word)
  deriving DecidableEq, Repr

/-- The modes whose locator is a 16-bit target given by an absolute operand (R90). -/
inductive NearMode where
  /-- `a` (R114). -/
  | pcabs (a : Word)
  /-- `(a)` (R116). -/
  | absind (a : Word)
  /-- `(a,X)` (R117). -/
  | absindx (a : Word)
  deriving DecidableEq, Repr

/-- The modes whose locator is a 24-bit target (R90). -/
inductive FarMode where
  /-- `al` (R115). -/
  | pcabsl (al : Addr)
  /-- `[a]` (R118). -/
  | absindl (a : Word)
  deriving DecidableEq, Repr

/-- The mode ids of R73. -/
inductive Mode where
  /-- The modes with an operand locator (R93 to R111, R120, R121). -/
  | data (m : DataMode)
  /-- The absolute modes with a 16-bit target (R114, R116, R117). -/
  | near (m : NearMode)
  /-- The modes with a 24-bit target (R115, R118). -/
  | far (m : FarMode)
  /-- `` (R92). -/
  | imp
  /-- `` (R92). -/
  | stk
  /-- `r` (R112). -/
  | rel8 (r : Byte)
  /-- `rl` (R113). -/
  | rel16 (r : Word)
  /-- `srcbk,dstbk` (R119). -/
  | blk (dst : Byte) (src : Byte)
  deriving DecidableEq, Repr

/-- The operations: the 92 mnemonics of the map (R76). -/
inductive Op where
  | brk | ora | cop | tsb | asl | php | phd | bpl | trb | clc | inc | tcs | jsr | and | jsl | bit
  | rol | plp | pld | bmi | sec | dec | tsc | rti | eor | wdm | mvp | lsr | pha | phk | jmp | bvc
  | mvn | cli | phy | tcd | jml | rts | adc | per | stz | ror | pla | rtl | bvs | sei | ply | tdc
  | bra | sta | brl | sty | stx | dey | txa | phb | bcc | tya | txs | txy | ldy | lda | ldx | tay
  | tax | plb | bcs | clv | tsx | tyx | cpy | cmp | rep | iny | dex | wai | bne | pei | cld | phx
  | stp | cpx | sbc | sep | inx | nop | xba | beq | pea | sed | plx | xce
  deriving DecidableEq, Repr

end Sys2Proof
end

