-- ==== Sys2Proof/Machine/Memory.lean ====
section
/-! DEFINITION. Memory as a list of (address, byte) pairs in one canonical form: addresses strictly
rising and below 2^24 (20_memory.md R50), no entry equal to what an unlisted address reads as
(notes/assumptions/1.md). -/

namespace Sys2Proof.Machine

/-- What an address that is not listed reads as. DESIGN CHOICE: the spec leaves memory to the bus
(R51); its own test vectors take every unnamed byte as 0x00 (95_test_vectors.md, Conventions). -/
def Memory.unlisted : Byte := 0x00

/-- The byte at address `a`. -/
def Memory.read : List Host.Cell → Nat → Byte
  | [], _ => Memory.unlisted
  | (b, v) :: rest, a => if a = b then v else Memory.read rest a

/-- An entry for `v` at `a` before `rest`, left out where an unlisted address reads as `v`. -/
def Memory.put (a : Nat) (v : Byte) (rest : List Host.Cell) : List Host.Cell :=
  if v = Memory.unlisted then rest else (a, v) :: rest

/-- The memory after byte `v` is written at address `a`. -/
def Memory.write : List Host.Cell → Nat → Byte → List Host.Cell
  | [], a, v => Memory.put a v []
  | (b, w) :: rest, a, v =>
    if a < b then Memory.put a v ((b, w) :: rest)
    else if a = b then Memory.put a v rest
    else (b, w) :: Memory.write rest a v

/-- Every address of the list is above `n` and strictly rising, below 2^24, with no byte equal to
the unlisted one; `n` is one more than the address before. -/
def Memory.wfFrom : Nat → List Host.Cell → Bool
  | _, [] => true
  | n, (a, v) :: rest =>
    decide (n ≤ a) && decide (a < 2 ^ 24) && decide (v ≠ Memory.unlisted) &&
      Memory.wfFrom (a + 1) rest

/-- The canonical form. -/
def Memory.wf (m : List Host.Cell) : Bool := Memory.wfFrom 0 m

end Sys2Proof.Machine
end

