-- ==== Sys2Proof/Config.lean ====
section
/-! DEFINITION. What an implementation of the core fixes (00_scope.md R7). The open function
`IdleCycles` depends on the machine's state, so it stands in Machine/Idle.lean under this
namespace. -/

namespace Sys2Proof.Config

/-- One less than `IRQ_SOURCES`, which R7 leaves OPEN, "at least 1". No proof can see its value
(notes/assumptions/4.md). -/
opaque extraIrqSources : Nat

/-- `IRQ_SOURCES`: the number of maskable interrupt sources (R7, R282). -/
def irqSources : Nat := extraIrqSources + 1

/-- `DP_QUIRK_PEI`, decided `false` (R7, R91; 92_eei_decisions.md D6; notes/assumptions/6.md). -/
def dpQuirkPei : Bool := false

/-- `DP_QUIRK_LONG_PTR`, decided `false` (R7, R91; D6; notes/assumptions/6.md). -/
def dpQuirkLongPtr : Bool := false

/-- `EMU_HWINT_PUSH_B_CLEAR`, decided `false` (R7, R286; D9; notes/assumptions/6.md). -/
def emuHwIntPushBClear : Bool := false

end Sys2Proof.Config
end

