-- ==== Sys2Proof/Machine/State.lean ====
section
/-! DEFINITION. The state of the machine as plain data (10_state.md R20 to R45), the reasons a call
can stop, and the state after reset. -/

namespace Sys2Proof.Machine

/-- The run state (10_state.md R44; 60_exceptions.md R288). -/
inductive RunState where
  | running
  | waiting
  | stopped
  deriving DecidableEq, Repr

/-- The kind a bus access carries (20_memory.md R53). -/
inductive AccessKind where
  | opcodeFetch
  | operand
  | data
  deriving DecidableEq, Repr

/-- One bus access the core made: its kind, its address and the byte read or written
(20_memory.md R51, R53). -/
inductive Access where
  | read (kind : AccessKind) (a : Addr) (v : Byte)
  | write (kind : AccessKind) (a : Addr) (v : Byte)
  deriving DecidableEq, Repr

/-- A call of the interrupt-line interface made during a bus access or an idle cycle
(60_exceptions.md R281 to R283). A source id is below `IRQ_SOURCES` by its type: the interface has
no other (R282). -/
inductive LineCall where
  | assertNmi
  | assertIrq (n : Fin Config.irqSources)
  | clearIrq (n : Fin Config.irqSources)
  deriving DecidableEq, Repr

/-- What the world outside does at one bus access or idle cycle (R51, R283): the byte the bus
answers a read with, where it is not the byte of memory, and the line calls made during it
(notes/assumptions/3.md). -/
structure BusEvent where
  answer : Option Byte
  calls : List LineCall
  deriving DecidableEq, Repr

/-- The state of the core (R20, R39, R40, R44), the memory behind its bus (R50, R51), the script of
the world outside (R51, R283) and the record of the accesses of the current step (R59, R298). -/
structure State where
  /-- The accumulator `A` (R21). -/
  a : Word
  /-- The index register `X` (R22). -/
  x : Word
  /-- The index register `Y` (R22). -/
  y : Word
  /-- The stack pointer `S` (R23). -/
  sp : Word
  /-- The direct-page register `D` (R24). -/
  d : Word
  /-- The data bank register `DBR` (R25). -/
  dbr : Byte
  /-- The program bank register `K` (R26). -/
  k : Byte
  /-- The program counter `PC` (R27). -/
  pc : Word
  /-- The status register `P` (R28). -/
  p : Byte
  /-- The emulation flag `E` (R29). -/
  e : Bool
  /-- `CycleCount` (R40). -/
  cycles : Nat
  /-- The maskable source bitmask `irqLines` (R39). -/
  irqLines : Nat
  /-- The sticky flag `nmiPending` (R39). -/
  nmiPending : Bool
  /-- The run state `run` (R44). -/
  run : RunState
  /-- The bytes of the address space that differ from what an unlisted address reads as, by rising
  address (notes/assumptions/1.md). -/
  mem : List Host.Cell
  /-- What the world outside does at the coming bus accesses and idle cycles, first one first; past
  its end the bus answers from memory and no line driver acts (notes/assumptions/3.md). -/
  env : List BusEvent
  /-- The bus accesses of the step, in order (notes/assumptions/10.md). -/
  trace : List Access
  deriving DecidableEq, Repr

/-- The core has no fault (60_exceptions.md R280: "A model of this core has no fault state"), so
there is no reason to name: the type is empty, and no definition of the model can answer with a
fault (notes/assumptions/12.md). -/
inductive Fault where
  deriving DecidableEq, Repr

/-- Why a call is refused. -/
inductive Refusal where
  /-- An arm of `exec` whose instruction has no meaning yet. No arm raises it now. Safe. -/
  | notModelled (mnemonic : String)
  /-- Raised by `assertIrq`, `clearIrq` and `isIrqAsserted` (Machine/Lines.lean) for an id outside
  `0 .. IRQ_SOURCES-1` (60_exceptions.md R282: "a model refuses it"); never by a step. Safe. -/
  | irqSourceOutOfRange (n : Nat)
  deriving DecidableEq, Repr

/-- What a meaning and a step answer with. -/
abbrev Result := Host.Outcome State Fault Refusal

/-- The machine right after power-on and reset (10_state.md R45; 70_reset_and_hazards.md R310,
R311), for the draw `A = X[7:0] = Y[7:0] = 0`, `S[7:0] = 0xFF`, `C = Z = V = N = 0`
(notes/assumptions/2.md) and a memory that lists nothing (notes/assumptions/1.md), so that the
reset vector reads as 0. -/
def State.reset : State where
  a := 0x0000
  x := 0x0000
  y := 0x0000
  sp := 0x01FF
  d := 0x0000
  dbr := 0x00
  k := 0x00
  pc := 0x0000
  p := 0x34
  e := true
  cycles := 2
  irqLines := 0
  nmiPending := false
  run := .running
  mem := []
  env := []
  trace := [.read .data 0x00FFFC 0x00, .read .data 0x00FFFD 0x00]

end Sys2Proof.Machine
end

