-- ==== Sys2Proof/Machine/Ops.lean ====
section
/-! DEFINITION. The named operations over registers, bus and stack: flag views and widths, the
setters (10_state.md R30 to R35), bus accesses (20_memory.md R51, R52), stack primitives
(44_stack.md R200 to R203), interrupt entry (60_exceptions.md R286) and the return from it
(46_control_transfer.md R257). -/

namespace Sys2Proof.Machine

/-! ### Flags and widths (10_state.md R28; 00_scope.md R10) -/

/-- The mask of `P.C` (R28). -/
def maskC : Byte := 0x01
/-- The mask of `P.Z` (R28). -/
def maskZ : Byte := 0x02
/-- The mask of `P.I` (R28). -/
def maskI : Byte := 0x04
/-- The mask of `P.D` (R28). -/
def maskD : Byte := 0x08
/-- The mask of `P.X` (R28). -/
def maskX : Byte := 0x10
/-- The mask of `P.M` (R28). -/
def maskM : Byte := 0x20
/-- The mask of `P.V` (R28). -/
def maskV : Byte := 0x40
/-- The mask of `P.N` (R28). -/
def maskN : Byte := 0x80

/-- `P.C` (R28). -/
def State.flagC (s : State) : Bool := s.p.getLsbD 0
/-- `P.Z` (R28). -/
def State.flagZ (s : State) : Bool := s.p.getLsbD 1
/-- `P.I` (R28). -/
def State.flagI (s : State) : Bool := s.p.getLsbD 2
/-- `P.D` (R28). -/
def State.flagD (s : State) : Bool := s.p.getLsbD 3
/-- `P.X` (R28). -/
def State.flagX (s : State) : Bool := s.p.getLsbD 4
/-- `P.M` (R28). -/
def State.flagM (s : State) : Bool := s.p.getLsbD 5
/-- `P.V` (R28). -/
def State.flagV (s : State) : Bool := s.p.getLsbD 6
/-- `P.N` (R28). -/
def State.flagN (s : State) : Bool := s.p.getLsbD 7

/-- 8 bits where the flag is set, else 16 (R10). -/
def widthOf (flag : Bool) : Width := if flag then .w8 else .w16

/-- `wM` (R10). -/
def State.wM (s : State) : Width := widthOf s.flagM

/-- `wX` (R10). -/
def State.wX (s : State) : Width := widthOf s.flagX

/-! ### The setters (10_state.md R30 to R35) -/

/-- `SetA(w, v)` (R30). -/
def State.setA (s : State) (w : Width) (v : Word) : State :=
  { s with a := match w with
    | .w8 => word (hi s.a) (lo v)
    | .w16 => v }

/-- An index value under status `p`: its high byte is cleared when the X bit is set (R22). -/
def narrowIndex (p : Byte) (v : Word) : Word :=
  if p.getLsbD 4 then word 0x00 (lo v) else v

/-- `SetX(v)` (R31). -/
def State.setX (s : State) (v : Word) : State := { s with x := narrowIndex s.p v }

/-- `SetY(v)` (R32). -/
def State.setY (s : State) (v : Word) : State := { s with y := narrowIndex s.p v }

/-- A stack-pointer value under emulation flag `e` (R33). -/
def clampStack (e : Bool) (v : Word) : Word := if e then word 0x01 (lo v) else v

/-- `SetSP(v)` (R33). -/
def State.setSP (s : State) (v : Word) : State := { s with sp := clampStack s.e v }

/-- A status value under emulation flag `e`: M and X forced set in emulation mode (R34). -/
def forceMX (e : Bool) (v : Byte) : Byte := if e then v ||| (maskM ||| maskX) else v

/-- `SetP(v)` (R34). -/
def State.setP (s : State) (v : Byte) : State :=
  { s with
    p := forceMX s.e v
    x := narrowIndex (forceMX s.e v) s.x
    y := narrowIndex (forceMX s.e v) s.y }

/-- `SetE(e)` (R35). -/
def State.setE (s : State) (e : Bool) : State :=
  { s with
    e := e
    p := forceMX e s.p
    x := if e then narrowIndex (forceMX e s.p) s.x else s.x
    y := if e then narrowIndex (forceMX e s.p) s.y else s.y
    sp := clampStack e s.sp }

/-- `p` with the bits of `mask` set or cleared. -/
def withMask (p mask : Byte) (b : Bool) : Byte := if b then p ||| mask else p &&& ~~~mask

/-- The flag with mask `mask` gets `b`, through the setter: `SetFlags` and `ClearFlags` of R13. -/
def State.setFlag (s : State) (mask : Byte) (b : Bool) : State := s.setP (withMask s.p mask b)

/-- `SetNZ_w(v)` (R13). -/
def State.setNZ (s : State) (w : Width) (v : Word) : State :=
  (s.setFlag maskZ (isZero w v)).setFlag maskN (msb w v)

/-! ### The bus (20_memory.md R51, R52; 60_exceptions.md R283) -/

/-- What one line call does to `nmiPending`: to true only (R281, R283). -/
def LineCall.onNmi (pending : Bool) : LineCall → Bool
  | .assertNmi => true
  | .assertIrq _ => pending
  | .clearIrq _ => pending

/-- The bitmask with bit `n` set (R282). -/
def irqSet (lines n : Nat) : Nat := lines ||| (1 <<< n)

/-- The bitmask with bit `n` clear: `lines & ~(1 << n)` (R282). -/
def irqClear (lines n : Nat) : Nat := if lines.testBit n then lines ^^^ (1 <<< n) else lines

/-- What one line call does to `irqLines` (R282). -/
def LineCall.onIrq (lines : Nat) : LineCall → Nat
  | .assertNmi => lines
  | .assertIrq n => irqSet lines n.val
  | .clearIrq n => irqClear lines n.val

/-- The line calls made during the next bus access or idle cycle. -/
def nextCalls : List BusEvent → List LineCall
  | [] => []
  | ev :: _ => ev.calls

/-- The byte the bus answers the next read with, where it is not the byte of memory (R51). -/
def nextAnswer : List BusEvent → Option Byte
  | [] => none
  | ev :: _ => ev.answer

/-- One cycle: `CycleCount` grows by one (R52) and the line drivers act (R283). It is `Idle()`, and
what every bus access does besides. -/
def State.idle (s : State) : State :=
  { s with
    cycles := s.cycles + 1
    env := s.env.tail
    nmiPending := (nextCalls s.env).foldl LineCall.onNmi s.nmiPending
    irqLines := (nextCalls s.env).foldl LineCall.onIrq s.irqLines }

/-- The byte the bus answers a read of `a` with: any byte the script gives, else the byte of memory
(R51; 92_eei_decisions.md D24). -/
def State.busByte (s : State) (a : Addr) : Byte :=
  (nextAnswer s.env).getD (Memory.read s.mem a.toNat)

/-- `Read8(a, kind)` (00_scope.md R11). -/
def State.read8 (s : State) (kind : AccessKind) (a : Addr) : Byte × State :=
  (s.busByte a, { s.idle with trace := s.trace ++ [.read kind a (s.busByte a)] })

/-- `Write8(a, v, kind)` (R11). -/
def State.write8 (s : State) (kind : AccessKind) (a : Addr) (v : Byte) : State :=
  { s.idle with
    mem := Memory.write s.mem a.toNat v
    trace := s.trace ++ [.write kind a v] }

/-- `MemRead(a0, a1, 16)` (R11): low byte at `a0`, then high byte at `a1` (R54, R58). -/
def State.read16 (s : State) (a0 a1 : Addr) : Word × State :=
  let r0 := s.read8 .data a0
  let r1 := r0.2.read8 .data a1
  (word r1.1 r0.1, r1.2)

/-- A 24-bit pointer, low byte first (R54, R58). -/
def State.read24 (s : State) (a0 a1 a2 : Addr) : Addr × State :=
  let r0 := s.read8 .data a0
  let r1 := r0.2.read8 .data a1
  let r2 := r1.2.read8 .data a2
  (long r2.1 r1.1 r0.1, r2.2)

/-! ### The stack (44_stack.md R200 to R203) -/

/-- `Push8(v)` (R200). -/
def State.push8 (s : State) (v : Byte) : State :=
  (s.write8 .data (addr 0x00 s.sp) v).setSP (s.sp - 1)

/-- `Push16(v)` (R202). -/
def State.push16 (s : State) (v : Word) : State := (s.push8 (hi v)).push8 (lo v)

/-- `Pull8()` (R201). -/
def State.pull8 (s : State) : Byte × State :=
  (s.setSP (s.sp + 1)).read8 .data (addr 0x00 (s.setSP (s.sp + 1)).sp)

/-- `Pull16()` (R203). -/
def State.pull16 (s : State) : Word × State :=
  let r0 := s.pull8
  let r1 := r0.2.pull8
  (word r1.1 r0.1, r1.2)

/-- Push the low `w` bits of `v`: `Push16` or `Push8` (R204 to R206). -/
def State.pushW (s : State) (w : Width) (v : Word) : State :=
  match w with
  | .w8 => s.push8 (lo v)
  | .w16 => s.push16 v

/-- Pull a value of width `w` (R211 to R213). -/
def State.pullW (s : State) (w : Width) : Word × State :=
  match w with
  | .w8 => (zext s.pull8.1, s.pull8.2)
  | .w16 => s.pull16

/-! ### Interrupt entry and return (60_exceptions.md R286; 46_control_transfer.md R257) -/

/-- What enters a handler: an instruction (`BRK`, `COP`) or a hardware interrupt (NMI, IRQ). -/
inductive EntryCause where
  | software
  | hardware
  deriving DecidableEq, Repr

/-- The `P` an entry pushes: as held (R286); bit 4 clear for a hardware interrupt in emulation mode
where the parameter `EMU_HWINT_PUSH_B_CLEAR` is set, which is decided `false` (D9). -/
def State.pushedP (s : State) (cause : EntryCause) : Byte :=
  if Config.emuHwIntPushBClear && s.e && decide (cause = .hardware) then s.p &&& ~~~maskX
  else s.p

/-- `K` in native mode only, the first push of an entry (R286). -/
def State.pushBank (s : State) : State := if s.e then s else s.push8 s.k

/-- `Enter(v)` (R286). -/
def State.enter (s : State) (cause : EntryCause) (v : Word) : State :=
  let s1 := (s.pushBank.push16 s.pc).push8 (s.pushedP cause)
  let s2 := s1.setP ((s1.p ||| maskI) &&& ~~~maskD)
  let s3 := { s2 with k := 0x00 }
  let r := s3.read16 (addr 0x00 v) (addr 0x00 (v + 1))
  { r.2 with pc := r.1 }

/-- The return from interrupt (R257): `P`, then `PC`, then `K` in native mode. -/
def State.returnFromInterrupt (s : State) : State :=
  let rp := s.pull8
  let s1 := rp.2.setP rp.1
  let rpc := s1.pull16
  let s2 := { rpc.2 with pc := rpc.1 }
  if s2.e then s2 else { s2.pull8.2 with k := s2.pull8.1 }

end Sys2Proof.Machine
end

