-- ==== Sys2Proof/Machine/Operands.lean ====
section
/-! DEFINITION. The addressing-mode resolver (40_addressing.md): the locators, how an operand is read
and written, and the address of every mode. A resolver runs when the operand bytes have been fetched,
so `PC` is past the instruction; it makes the pointer reads and answers the state after them. -/

namespace Sys2Proof.Machine

/-- The locator of a value to read or write: `Imm`, `Mem` and `Acc` of R90. -/
inductive Operand where
  | imm (v : Word)
  | mem (a0 a1 : Addr)
  | acc
  deriving DecidableEq, Repr

/-- The locator of R90. -/
inductive Loc where
  | operand (o : Operand)
  | target (t : Word)
  | longTarget (t : Addr)
  | banks (src dst : Byte)
  | none
  deriving DecidableEq, Repr

/-! ### Reading and writing an operand (R90) -/

/-- `MemRead(a0, a1, w)` of 00_scope.md R11: for `w = 8` it reads `a0` only. -/
def State.readMem (s : State) (a0 a1 : Addr) (w : Width) : Word × State :=
  match w with
  | .w8 => (zext (s.read8 .data a0).1, (s.read8 .data a0).2)
  | .w16 => s.read16 a0 a1

/-- `GetValue(L, w)` (R90). -/
def State.getValue (s : State) (o : Operand) (w : Width) : Word × State :=
  match o with
  | .imm v => (trunc w v, s)
  | .mem a0 a1 => s.readMem a0 a1 w
  | .acc => (trunc w s.a, s)

/-- `MemWrite(a0, a1, w, v)` of R11: low byte, then high byte (R58). -/
def State.writeMem (s : State) (a0 a1 : Addr) (w : Width) (v : Word) : State :=
  match w with
  | .w8 => s.write8 .data a0 (lo v)
  | .w16 => (s.write8 .data a0 (lo v)).write8 .data a1 (hi v)

/-- The write of a read-modify-write instruction: high byte, then low byte (R58, R90). -/
def State.writeMemRMW (s : State) (a0 a1 : Addr) (w : Width) (v : Word) : State :=
  match w with
  | .w8 => s.write8 .data a0 (lo v)
  | .w16 => (s.write8 .data a1 (hi v)).write8 .data a0 (lo v)

/-- `PutValue(L, w, v)` (R90). "`PutValue` of an `Imm` locator never happens": no well-formed
instruction reaches that line, and it writes nothing (notes/assumptions/13.md). -/
def State.putValue (s : State) (o : Operand) (w : Width) (v : Word) : State :=
  match o with
  | .imm _ => s
  | .mem a0 a1 => s.writeMem a0 a1 w v
  | .acc => s.setA w v

/-- `PutValueRMW(L, w, v)` (R90); of `Imm` as in `State.putValue`. -/
def State.putValueRMW (s : State) (o : Operand) (w : Width) (v : Word) : State :=
  match o with
  | .imm _ => s
  | .mem a0 a1 => s.writeMemRMW a0 a1 w v
  | .acc => s.setA w v

/-! ### Addresses -/

/-- `DP(off, q)` (R91). Only `off` modulo 2^16 counts, so it is a word. -/
def State.dpAddr (s : State) (off : Word) (q : Bool) : Addr :=
  if q && s.e && lo s.d == 0x00 then addr 0x00 (word (hi s.d) (lo off))
  else addr 0x00 (s.d + off)

/-- The operand at `DP(off)`, `DP(off + 1)`. -/
def State.dpOperand (s : State) (off : Word) (q : Bool) : Operand :=
  .mem (s.dpAddr off q) (s.dpAddr (off + 1) q)

/-- The operand whose high byte is at `NextLong` of its low byte (R122). -/
def longOperand (ea : Addr) : Operand := .mem ea (nextLong ea)

/-- The 16-bit pointer at `DP(off)`, `DP(off + 1)` (R100). -/
def State.dpPointer (s : State) (off : Word) : Word × State :=
  s.read16 (s.dpAddr off true) (s.dpAddr (off + 1) true)

/-- The 24-bit pointer at `DP(d)`, `DP(d + 1)`, `DP(d + 2)`, with the quirk only where the parameter
`DP_QUIRK_LONG_PTR` is set (R103). -/
def State.dpLongPointer (s : State) (off : Word) : Addr × State :=
  s.read24 (s.dpAddr off Config.dpQuirkLongPtr) (s.dpAddr (off + 1) Config.dpQuirkLongPtr)
    (s.dpAddr (off + 2) Config.dpQuirkLongPtr)

/-! ### A resolver per mode -/

/-- Immediate, m-sized (R94). -/
def State.resolveImmM (s : State) (v : Imm) : Operand × State := (.imm (immValue v), s)

/-- Immediate, x-sized (R95). -/
def State.resolveImmX (s : State) (v : Imm) : Operand × State := (.imm (immValue v), s)

/-- Immediate, 8-bit (R96). -/
def State.resolveImm8 (s : State) (v : Byte) : Operand × State := (.imm (zext v), s)

/-- Signature (R96). -/
def State.resolveSig (s : State) (v : Byte) : Operand × State := (.imm (zext v), s)

/-- `d` (R97). -/
def State.resolveDp (s : State) (d : Byte) : Operand × State := (s.dpOperand (zext d) true, s)

/-- `d,X` (R98). -/
def State.resolveDpx (s : State) (d : Byte) : Operand × State :=
  (s.dpOperand (zext d + s.x) true, s)

/-- `d,Y` (R99). -/
def State.resolveDpy (s : State) (d : Byte) : Operand × State :=
  (s.dpOperand (zext d + s.y) true, s)

/-- `(d)` (R100). -/
def State.resolveDpind (s : State) (d : Byte) : Operand × State :=
  let r := s.dpPointer (zext d)
  (longOperand (addr s.dbr r.1), r.2)

/-- `(d,X)` (R101). -/
def State.resolveDpindx (s : State) (d : Byte) : Operand × State :=
  let r := s.dpPointer (zext d + s.x)
  (longOperand (addr s.dbr r.1), r.2)

/-- `(d),Y` (R102). -/
def State.resolveDpindy (s : State) (d : Byte) : Operand × State :=
  let r := s.dpPointer (zext d)
  (longOperand (addr s.dbr r.1 + indexAddend s.y), r.2)

/-- `[d]` (R103). -/
def State.resolveDpindl (s : State) (d : Byte) : Operand × State :=
  let r := s.dpLongPointer (zext d)
  (longOperand r.1, r.2)

/-- `[d],Y` (R104). -/
def State.resolveDpindly (s : State) (d : Byte) : Operand × State :=
  let r := s.dpLongPointer (zext d)
  (longOperand (r.1 + indexAddend s.y), r.2)

/-- `a` (R105). -/
def State.resolveAbs (s : State) (a : Word) : Operand × State := (longOperand (addr s.dbr a), s)

/-- `a,X` (R106). -/
def State.resolveAbsx (s : State) (a : Word) : Operand × State :=
  (longOperand (addr s.dbr a + indexAddend s.x), s)

/-- `a,Y` (R107). -/
def State.resolveAbsy (s : State) (a : Word) : Operand × State :=
  (longOperand (addr s.dbr a + indexAddend s.y), s)

/-- `al` (R108). -/
def State.resolveAbsl (s : State) (al : Addr) : Operand × State := (longOperand al, s)

/-- `al,X` (R109). -/
def State.resolveAbslx (s : State) (al : Addr) : Operand × State :=
  (longOperand (al + indexAddend s.x), s)

/-- `d,S` (R110). -/
def State.resolveSr (s : State) (d : Byte) : Operand × State :=
  (.mem (addr 0x00 (s.sp + zext d)) (nextBank0 (addr 0x00 (s.sp + zext d))), s)

/-- `(d,S),Y` (R111). -/
def State.resolveSriy (s : State) (d : Byte) : Operand × State :=
  let r := s.read16 (addr 0x00 (s.sp + zext d)) (addr 0x00 (s.sp + zext d + 1))
  (longOperand (addr s.dbr r.1 + indexAddend s.y), r.2)

/-- The word in the direct page that `PEI` pushes, with the quirk only where the parameter
`DP_QUIRK_PEI` is set (R120). -/
def State.resolvePei (s : State) (d : Byte) : Operand × State :=
  (s.dpOperand (zext d) Config.dpQuirkPei, s)

/-- The value `PEA` pushes (R121). -/
def State.resolvePea (s : State) (a : Word) : Operand × State := (.imm a, s)

/-- The resolver of a mode with an operand locator. -/
def State.resolveData (s : State) : DataMode → Operand × State
  | .acc => (.acc, s)
  | .immM v => s.resolveImmM v
  | .immX v => s.resolveImmX v
  | .imm8 v => s.resolveImm8 v
  | .sig v => s.resolveSig v
  | .dp d => s.resolveDp d
  | .dpx d => s.resolveDpx d
  | .dpy d => s.resolveDpy d
  | .dpind d => s.resolveDpind d
  | .dpindx d => s.resolveDpindx d
  | .dpindy d => s.resolveDpindy d
  | .dpindl d => s.resolveDpindl d
  | .dpindly d => s.resolveDpindly d
  | .abs a => s.resolveAbs a
  | .absx a => s.resolveAbsx a
  | .absy a => s.resolveAbsy a
  | .absl al => s.resolveAbsl al
  | .abslx al => s.resolveAbslx al
  | .sr d => s.resolveSr d
  | .sriy d => s.resolveSriy d
  | .pei d => s.resolvePei d
  | .pea a => s.resolvePea a

/-- `r` (R112): `PC` is the offset after the 2-byte instruction. -/
def State.resolveRel8 (s : State) (r : Byte) : Word := s.pc + sext r

/-- `rl` (R113): `PC` is the offset after the 3-byte instruction. -/
def State.resolveRel16 (s : State) (r : Word) : Word := s.pc + r

/-- `(a)` (R116): a pointer in bank 0. -/
def State.resolveAbsind (s : State) (a : Word) : Word × State :=
  s.read16 (addr 0x00 a) (addr 0x00 (a + 1))

/-- `(a,X)` (R117): a pointer in the program bank. -/
def State.resolveAbsindx (s : State) (a : Word) : Word × State :=
  s.read16 (addr s.k (a + s.x)) (addr s.k (a + s.x + 1))

/-- `[a]` (R118): a 24-bit pointer in bank 0. -/
def State.resolveAbsindl (s : State) (a : Word) : Addr × State :=
  s.read24 (addr 0x00 a) (addr 0x00 (a + 1)) (addr 0x00 (a + 2))

/-- The resolver of an absolute mode with a 16-bit target (R114, R116, R117). -/
def State.resolveNear (s : State) : NearMode → Word × State
  | .pcabs a => (a, s)
  | .absind a => s.resolveAbsind a
  | .absindx a => s.resolveAbsindx a

/-- The resolver of a mode with a 24-bit target (R115, R118). -/
def State.resolveFar (s : State) : FarMode → Addr × State
  | .pcabsl al => (al, s)
  | .absindl a => s.resolveAbsindl a

/-- The resolver of every mode, with the locator of R90. -/
def State.resolve (s : State) : Mode → Loc × State
  | .data m => (.operand (s.resolveData m).1, (s.resolveData m).2)
  | .near m => (.target (s.resolveNear m).1, (s.resolveNear m).2)
  | .far m => (.longTarget (s.resolveFar m).1, (s.resolveFar m).2)
  | .imp => (.none, s)
  | .stk => (.none, s)
  | .rel8 r => (.target (s.resolveRel8 r), s)
  | .rel16 r => (.target (s.resolveRel16 r), s)
  | .blk dst src => (.banks src dst, s)

/-! ### Shapes of a meaning: resolve, then operate (20_memory.md R59) -/

/-- An operation on an operand, run on the locator of its mode. -/
def onData (operate : State → Operand → State) (m : DataMode) (s : State) : Result :=
  .next (operate (s.resolveData m).2 (s.resolveData m).1)

/-- An operation on a 16-bit target, run on the locator of its mode. -/
def onNear (operate : State → Word → State) (m : NearMode) (s : State) : Result :=
  .next (operate (s.resolveNear m).2 (s.resolveNear m).1)

/-- An operation on a 24-bit target, run on the locator of its mode. -/
def onFar (operate : State → Addr → State) (m : FarMode) (s : State) : Result :=
  .next (operate (s.resolveFar m).2 (s.resolveFar m).1)

end Sys2Proof.Machine
end

