-- ==== Sys2Proof/Machine/Arithmetic.lean ====
section
/-! DEFINITION. Arithmetic, compare, logical and increment instructions (41_arithmetic_logic.md R130 to
R147). Each operation takes the state after the resolver and the locator it answered. -/

namespace Sys2Proof.Machine

/-- `A[w-1:0]` (R130). -/
def State.acc (s : State) : Word := trunc s.wM s.a

/-- `X[w-1:0]` (R134). -/
def State.idx (s : State) : Word := trunc s.wX s.x

/-- `Y[w-1:0]` (R135). -/
def State.idy (s : State) : Word := trunc s.wX s.y

/-- The end of `ADC` and `SBC`: `SetA`, `SetNZ`, `V`, `C` (R131, R132). -/
def State.setSum (s : State) (r : AluOut) : State :=
  (((s.setA s.wM r.res).setNZ s.wM r.res).setFlag maskV r.v).setFlag maskC r.c

/-- `ADC` (R131). -/
def opAdc (s : State) (o : Operand) : State :=
  let r := s.getValue o s.wM
  r.2.setSum (adcOut s.flagD s.wM s.acc r.1 s.flagC)

/-- `SBC` (R132). -/
def opSbc (s : State) (o : Operand) : State :=
  let r := s.getValue o s.wM
  r.2.setSum (sbcOut s.flagD s.wM s.acc r.1 s.flagC)

/-- Compare the register value `a` with an operand at width `w` (R133). -/
def opCompare (s : State) (w : Width) (a : Word) (o : Operand) : State :=
  let r := s.getValue o w
  (r.2.setFlag maskC (compareCarry a r.1)).setNZ w (compareDiff w a r.1)

/-- A bitwise operation into the accumulator (R136 to R138). -/
def opLogic (f : Word → Word → Word) (s : State) (o : Operand) : State :=
  let r := s.getValue o s.wM
  (r.2.setA s.wM (f s.acc r.1)).setNZ s.wM (f s.acc r.1)

/-- The locator is an immediate (R90: `immMode`). -/
def Operand.isImm : Operand → Bool
  | .imm _ => true
  | .mem _ _ => false
  | .acc => false

/-- `BIT` (R139): `N` and `V` come from the operand and only of a memory form. -/
def opBit (s : State) (o : Operand) : State :=
  let r := s.getValue o s.wM
  let t := r.2.setFlag maskZ (isZero s.wM (s.acc &&& r.1))
  if o.isImm then t else (t.setFlag maskN (msb s.wM r.1)).setFlag maskV (msb2 s.wM r.1)

/-- `TSB` and `TRB` (R140, R141): `Z` from the and, then `f m a` is written back. -/
def opTestSet (f : Word → Word → Word) (s : State) (o : Operand) : State :=
  let r := s.getValue o s.wM
  (r.2.setFlag maskZ (isZero s.wM (s.acc &&& r.1))).putValueRMW o s.wM (f r.1 s.acc)

/-- `INC` and `DEC` (R142, R143): `f v` at m-width is written back and sets `N` and `Z`. -/
def opStepValue (f : Word → Word) (s : State) (o : Operand) : State :=
  let r := s.getValue o s.wM
  let v := trunc s.wM (f r.1)
  (r.2.putValueRMW o s.wM v).setNZ s.wM v

/-- `INX` and `DEX` (R144, R146). -/
def opStepX (f : Word → Word) (s : State) : State :=
  let v := trunc s.wX (f s.idx)
  (s.setX v).setNZ s.wX v

/-- `INY` and `DEY` (R145, R147). -/
def opStepY (f : Word → Word) (s : State) : State :=
  let v := trunc s.wX (f s.idy)
  (s.setY v).setNZ s.wX v

/-! ### The meanings -/

/-- `ADC` (R131). -/
def execAdc (m : DataMode) (s : State) : Result := onData opAdc m s

/-- `SBC` (R132). -/
def execSbc (m : DataMode) (s : State) : Result := onData opSbc m s

/-- `CMP` (R133). -/
def execCmp (m : DataMode) (s : State) : Result :=
  onData (fun t o => opCompare t t.wM t.acc o) m s

/-- `CPX` (R134). -/
def execCpx (m : DataMode) (s : State) : Result :=
  onData (fun t o => opCompare t t.wX t.idx o) m s

/-- `CPY` (R135). -/
def execCpy (m : DataMode) (s : State) : Result :=
  onData (fun t o => opCompare t t.wX t.idy o) m s

/-- `AND` (R136). -/
def execAnd (m : DataMode) (s : State) : Result := onData (opLogic (· &&& ·)) m s

/-- `ORA` (R137). -/
def execOra (m : DataMode) (s : State) : Result := onData (opLogic (· ||| ·)) m s

/-- `EOR` (R138). -/
def execEor (m : DataMode) (s : State) : Result := onData (opLogic (· ^^^ ·)) m s

/-- `BIT` (R139). -/
def execBit (m : DataMode) (s : State) : Result := onData opBit m s

/-- `TSB` (R140). -/
def execTsb (m : DataMode) (s : State) : Result := onData (opTestSet (fun v a => v ||| a)) m s

/-- `TRB` (R141). -/
def execTrb (m : DataMode) (s : State) : Result := onData (opTestSet (fun v a => v &&& ~~~a)) m s

/-- `INC` (R142). -/
def execInc (m : DataMode) (s : State) : Result := onData (opStepValue (· + 1)) m s

/-- `DEC` (R143). -/
def execDec (m : DataMode) (s : State) : Result := onData (opStepValue (· - 1)) m s

/-- `INX` (R144). -/
def execInx (s : State) : Result := .next (opStepX (· + 1) s)

/-- `INY` (R145). -/
def execIny (s : State) : Result := .next (opStepY (· + 1) s)

/-- `DEX` (R146). -/
def execDex (s : State) : Result := .next (opStepX (· - 1) s)

/-- `DEY` (R147). -/
def execDey (s : State) : Result := .next (opStepY (· - 1) s)

end Sys2Proof.Machine
end

