-- ==== Sys2Proof/Machine/Control.lean ====
section
/-! DEFINITION. Branches, jumps, calls and returns (46_control_transfer.md R240 to R257). The state's
`PC` is `PCn`, the offset of the byte after the instruction. -/

namespace Sys2Proof.Machine

/-- A jump inside the program bank: `PC <- t` (R240, R251). -/
def State.jump (s : State) (t : Word) : State := { s with pc := t }

/-- A jump with its bank: `K` and `PC` (R252). -/
def State.jumpLong (s : State) (t : Addr) : State := { s with k := bankOf t, pc := offsetOf t }

/-- A branch with an 8-bit displacement, taken where `taken` holds (R240). -/
def opBranch (taken : Bool) (r : Byte) (s : State) : State :=
  if taken then s.jump (s.resolveRel8 r) else s

/-- `BCC` (R241). -/
def execBcc (r : Byte) (s : State) : Result := .next (opBranch (!s.flagC) r s)

/-- `BCS` (R242). -/
def execBcs (r : Byte) (s : State) : Result := .next (opBranch s.flagC r s)

/-- `BEQ` (R243). -/
def execBeq (r : Byte) (s : State) : Result := .next (opBranch s.flagZ r s)

/-- `BNE` (R244). -/
def execBne (r : Byte) (s : State) : Result := .next (opBranch (!s.flagZ) r s)

/-- `BMI` (R245). -/
def execBmi (r : Byte) (s : State) : Result := .next (opBranch s.flagN r s)

/-- `BPL` (R246). -/
def execBpl (r : Byte) (s : State) : Result := .next (opBranch (!s.flagN) r s)

/-- `BVC` (R247). -/
def execBvc (r : Byte) (s : State) : Result := .next (opBranch (!s.flagV) r s)

/-- `BVS` (R248). -/
def execBvs (r : Byte) (s : State) : Result := .next (opBranch s.flagV r s)

/-- `BRA` (R249). -/
def execBra (r : Byte) (s : State) : Result := .next (opBranch true r s)

/-- `BRL` (R250). -/
def execBrl (r : Word) (s : State) : Result := .next (s.jump (s.resolveRel16 r))

/-- `JMP` (R251). -/
def execJmp (m : NearMode) (s : State) : Result := onNear State.jump m s

/-- `JML` (R252). -/
def execJml (m : FarMode) (s : State) : Result := onFar State.jumpLong m s

/-- `JSR` (R253): the address of its own last byte is pushed. -/
def opJsr (s : State) (t : Word) : State := (s.push16 (s.pc - 1)).jump t

/-- `JSR` (R253). -/
def execJsr (m : NearMode) (s : State) : Result := onNear opJsr m s

/-- `JSL` (R254): the bank is pushed first. -/
def opJsl (s : State) (t : Addr) : State := ((s.push8 s.k).push16 (s.pc - 1)).jumpLong t

/-- `JSL` (R254). -/
def execJsl (al : Addr) (s : State) : Result := onFar opJsl (.pcabsl al) s

/-- `RTS` (R255). -/
def execRts (s : State) : Result :=
  let r := s.pull16
  .next (r.2.jump (r.1 + 1))

/-- `RTL` (R256): the increment does not carry into `K`. -/
def execRtl (s : State) : Result :=
  let r := s.pull16
  let rk := r.2.pull8
  .next { rk.2 with k := rk.1, pc := r.1 + 1 }

/-- `RTI` (R257). -/
def execRti (s : State) : Result := .next s.returnFromInterrupt

end Sys2Proof.Machine
end

