-- ==== Sys2Proof/Machine/ModeSwitch.lean ====
section
/-! DEFINITION. Mode-switch and flag instructions (45_mode_switch.md R220 to R229). -/

namespace Sys2Proof.Machine

/-- `REP` (R220). -/
def execRep (mask : Byte) (s : State) : Result := .next (s.setP (s.p &&& ~~~mask))

/-- `SEP` (R221). -/
def execSep (mask : Byte) (s : State) : Result := .next (s.setP (s.p ||| mask))

/-- `XCE` (R222): carry and emulation flag change places. -/
def execXce (s : State) : Result := .next ((s.setFlag maskC s.e).setE s.flagC)

/-- `CLC` (R223). -/
def execClc (s : State) : Result := .next (s.setFlag maskC false)

/-- `CLD` (R224). -/
def execCld (s : State) : Result := .next (s.setFlag maskD false)

/-- `CLI` (R225). -/
def execCli (s : State) : Result := .next (s.setFlag maskI false)

/-- `CLV` (R226). -/
def execClv (s : State) : Result := .next (s.setFlag maskV false)

/-- `SEC` (R227). -/
def execSec (s : State) : Result := .next (s.setFlag maskC true)

/-- `SED` (R228). -/
def execSed (s : State) : Result := .next (s.setFlag maskD true)

/-- `SEI` (R229). -/
def execSei (s : State) : Result := .next (s.setFlag maskI true)

end Sys2Proof.Machine
end

