-- ==== Sys2Proof/Machine/Shift.lean ====
section
/-! DEFINITION. Shift and rotate instructions (43_shift_rotate.md R190 to R194). -/

namespace Sys2Proof.Machine

/-- A shift or rotate (R190): the operand is read once, `C` gets the bit shifted out, the result is
written back through the same locator and sets `N` and `Z`. -/
def opShift (result : Width → Word → Bool → Word) (out : Width → Word → Bool) (s : State)
    (o : Operand) : State :=
  let r := s.getValue o s.wM
  let v := result s.wM r.1 s.flagC
  ((r.2.setFlag maskC (out s.wM r.1)).putValueRMW o s.wM v).setNZ s.wM v

/-- The bit a right shift moves out (R192, R194). -/
def lowBit (_w : Width) (v : Word) : Bool := v.getLsbD 0

/-- `ASL` (R191). -/
def execAsl (m : DataMode) (s : State) : Result :=
  onData (opShift (fun w v _ => shiftLeft w v) msb) m s

/-- `LSR` (R192). -/
def execLsr (m : DataMode) (s : State) : Result :=
  onData (opShift (fun _ v _ => shiftRight v) lowBit) m s

/-- `ROL` (R193). -/
def execRol (m : DataMode) (s : State) : Result := onData (opShift rotateLeft msb) m s

/-- `ROR` (R194). -/
def execRor (m : DataMode) (s : State) : Result := onData (opShift rotateRight lowBit) m s

end Sys2Proof.Machine
end

