-- ==== Sys2Proof/Machine/Stack.lean ====
section
/-! DEFINITION. Stack instructions (44_stack.md R204 to R219). -/

namespace Sys2Proof.Machine

/-- `PHA` (R204). -/
def execPha (s : State) : Result := .next (s.pushW s.wM s.a)

/-- `PHX` (R205). -/
def execPhx (s : State) : Result := .next (s.pushW s.wX s.x)

/-- `PHY` (R206). -/
def execPhy (s : State) : Result := .next (s.pushW s.wX s.y)

/-- `PHP` (R207): `P` as held, one byte in every mode. -/
def execPhp (s : State) : Result := .next (s.push8 s.p)

/-- `PHB` (R208). -/
def execPhb (s : State) : Result := .next (s.push8 s.dbr)

/-- `PHD` (R209). -/
def execPhd (s : State) : Result := .next (s.push16 s.d)

/-- `PHK` (R210). -/
def execPhk (s : State) : Result := .next (s.push8 s.k)

/-- `PLA` (R211). -/
def execPla (s : State) : Result :=
  let r := s.pullW s.wM
  .next ((r.2.setA s.wM r.1).setNZ s.wM r.1)

/-- `PLX` (R212). -/
def execPlx (s : State) : Result :=
  let r := s.pullW s.wX
  .next ((r.2.setX r.1).setNZ s.wX r.1)

/-- `PLY` (R213). -/
def execPly (s : State) : Result :=
  let r := s.pullW s.wX
  .next ((r.2.setY r.1).setNZ s.wX r.1)

/-- `PLP` (R214). -/
def execPlp (s : State) : Result := .next (s.pull8.2.setP s.pull8.1)

/-- `PLB` (R215). -/
def execPlb (s : State) : Result :=
  let r := s.pull8
  .next (({ r.2 with dbr := r.1 }).setNZ .w8 (zext r.1))

/-- `PLD` (R216). -/
def execPld (s : State) : Result :=
  let r := s.pull16
  .next (({ r.2 with d := r.1 }).setNZ .w16 r.1)

/-- Push the 16-bit value of a locator (R217, R218). -/
def opPushValue (s : State) (o : Operand) : State :=
  let r := s.getValue o .w16
  r.2.push16 r.1

/-- `PEA` (R217). -/
def execPea (a : Word) (s : State) : Result := onData opPushValue (.pea a) s

/-- `PEI` (R218): two bytes whatever `P.M` is. -/
def execPei (d : Byte) (s : State) : Result := onData opPushValue (.pei d) s

/-- `PER` (R219): the target is pushed, no memory is read there. -/
def execPer (r : Word) (s : State) : Result := .next (s.push16 (s.resolveRel16 r))

end Sys2Proof.Machine
end

