-- ==== Sys2Proof/Machine/System.lean ====
section
/-! DEFINITION. Software interrupts, wait, stop and no-operation (47_system.md R270 to R275). -/

namespace Sys2Proof.Machine

/-- The vector of `BRK` in the mode `e` (60_exceptions.md R285). -/
def brkVector (e : Bool) : Word := if e then 0xFFFE else 0xFFE6

/-- The vector of `COP` in the mode `e` (R285). -/
def copVector (e : Bool) : Word := if e then 0xFFF4 else 0xFFE4

/-- `BRK` (R270): the signature is ignored. -/
def execBrk (sig : Byte) (s : State) : Result :=
  onData (fun t _ => t.enter .software (brkVector t.e)) (.sig sig) s

/-- `COP` (R271): the signature is ignored. -/
def execCop (sig : Byte) (s : State) : Result :=
  onData (fun t _ => t.enter .software (copVector t.e)) (.sig sig) s

/-- `WAI` (R272): a wake condition already present is met at the boundary of the same step
(Machine/Interrupts.lean). -/
def execWai (s : State) : Result := .next { s with run := .waiting }

/-- `STP` (R273). -/
def execStp (s : State) : Result := .next { s with run := .stopped }

/-- `NOP` (R274). -/
def execNop (s : State) : Result := .next s

/-- `WDM` (R275): its operand byte is ignored. -/
def execWdm (sig : Byte) (s : State) : Result := onData (fun t _ => t) (.sig sig) s

end Sys2Proof.Machine
end

