-- ==== Sys2Proof/Machine/Transfer.lean ====
section
/-! DEFINITION. Load, store, transfer and block-move instructions (42_load_store_transfer.md R160 to
R183). -/

namespace Sys2Proof.Machine

/-- `LDA` (R161). -/
def opLda (s : State) (o : Operand) : State :=
  let r := s.getValue o s.wM
  (r.2.setA s.wM r.1).setNZ s.wM r.1

/-- `LDX` (R162). -/
def opLdx (s : State) (o : Operand) : State :=
  let r := s.getValue o s.wX
  (r.2.setX r.1).setNZ s.wX r.1

/-- `LDY` (R163). -/
def opLdy (s : State) (o : Operand) : State :=
  let r := s.getValue o s.wX
  (r.2.setY r.1).setNZ s.wX r.1

/-- A store of `v` at width `w` (R164 to R167). -/
def opStore (w : Width) (v : Word) (s : State) (o : Operand) : State :=
  s.putValue o w (trunc w v)

/-- A transfer into `X`, with `N` and `Z` at x-width (R168, R173, R174). -/
def opToX (s : State) (v : Word) : State := (s.setX v).setNZ s.wX (s.setX v).x

/-- A transfer into `Y`, with `N` and `Z` at x-width (R169, R172). -/
def opToY (s : State) (v : Word) : State := (s.setY v).setNZ s.wX (s.setY v).y

/-- A transfer into `A` at width `w`, with `N` and `Z` at that width (R170, R171, R177, R179). -/
def opToA (s : State) (w : Width) (v : Word) : State := (s.setA w v).setNZ w (s.setA w v).a

/-- `MVN` and `MVP` (R182, R183): one byte is moved, the offsets become `fx X` and `fx Y`, and `PC` goes
back to the instruction while bytes remain. -/
def opBlockMove (step : Word → Word) (src dst : Byte) (s : State) : State :=
  let r := s.read8 .data (addr src s.x)
  let s1 := r.2.write8 .data (addr dst s.y) r.1
  let s2 := (({ s1 with dbr := dst }).setX (step s1.x)).setY (step s1.y)
  let s3 := { s2 with a := s2.a - 1 }
  if s3.a ≠ 0xFFFF then { s3 with pc := s3.pc - 3 } else s3

/-! ### The meanings -/

/-- `LDA` (R161). -/
def execLda (m : DataMode) (s : State) : Result := onData opLda m s

/-- `LDX` (R162). -/
def execLdx (m : DataMode) (s : State) : Result := onData opLdx m s

/-- `LDY` (R163). -/
def execLdy (m : DataMode) (s : State) : Result := onData opLdy m s

/-- `STA` (R164). -/
def execSta (m : DataMode) (s : State) : Result := onData (fun t o => opStore t.wM t.a t o) m s

/-- `STX` (R165). -/
def execStx (m : DataMode) (s : State) : Result := onData (fun t o => opStore t.wX t.x t o) m s

/-- `STY` (R166). -/
def execSty (m : DataMode) (s : State) : Result := onData (fun t o => opStore t.wX t.y t o) m s

/-- `STZ` (R167). -/
def execStz (m : DataMode) (s : State) : Result := onData (fun t o => opStore t.wM 0 t o) m s

/-- `TAX` (R168). -/
def execTax (s : State) : Result := .next (opToX s s.a)

/-- `TAY` (R169). -/
def execTay (s : State) : Result := .next (opToY s s.a)

/-- `TXA` (R170). -/
def execTxa (s : State) : Result := .next (opToA s s.wM s.x)

/-- `TYA` (R171). -/
def execTya (s : State) : Result := .next (opToA s s.wM s.y)

/-- `TXY` (R172). -/
def execTxy (s : State) : Result := .next (opToY s s.x)

/-- `TYX` (R173). -/
def execTyx (s : State) : Result := .next (opToX s s.y)

/-- `TSX` (R174). -/
def execTsx (s : State) : Result := .next (opToX s s.sp)

/-- `TXS` (R175). -/
def execTxs (s : State) : Result := .next (s.setSP s.x)

/-- `TCS` (R176): all 16 bits of `A`. -/
def execTcs (s : State) : Result := .next (s.setSP s.a)

/-- `TSC` (R177): all 16 bits of `A` are written. -/
def execTsc (s : State) : Result := .next (opToA s .w16 s.sp)

/-- `TCD` (R178). -/
def execTcd (s : State) : Result := .next (({ s with d := s.a }).setNZ .w16 s.a)

/-- `TDC` (R179): all 16 bits of `A` are written. -/
def execTdc (s : State) : Result := .next (opToA s .w16 s.d)

/-- `XBA` (R180): `N` and `Z` from the new `AL`. -/
def execXba (s : State) : Result :=
  .next (({ s with a := word (lo s.a) (hi s.a) }).setNZ .w8 (zext (hi s.a)))

/-- `MVN` (R182). -/
def execMvn (dst src : Byte) (s : State) : Result := .next (opBlockMove (· + 1) src dst s)

/-- `MVP` (R183). -/
def execMvp (dst src : Byte) (s : State) : Result := .next (opBlockMove (· - 1) src dst s)

end Sys2Proof.Machine
end

