-- ==== Sys2Proof/Syntax.lean ====
section
/-! DEFINITION. The instructions: one constructor per mnemonic of the opcode map (30_encoding.md R76,
opcode_table.json), in the order of the map. The rows of one mnemonic are its addressing modes: where
there are several, the constructor takes the mode as its argument; where there is one, the operand of
that mode. Which modes a mnemonic has is WellFormed.lean's. (256 constructors, one per opcode, are more
than Lean's runtime can tag.) -/

namespace Sys2Proof

/-- The instructions. The comment of a constructor gives its opcodes (R76) and the rule of its
meaning. -/
inductive Instr where
  /-- `BRK` 00 (R270). -/
  | brk (sig : Byte)
  /-- `ORA` 01, 03, 05, 07, 09, 0D, 0F, 11, 12, 13, 15, 17, 19, 1D, 1F (R137). -/
  | ora (m : DataMode)
  /-- `COP` 02 (R271). -/
  | cop (sig : Byte)
  /-- `TSB` 04, 0C (R140). -/
  | tsb (m : DataMode)
  /-- `ASL` 06, 0A, 0E, 16, 1E (R191). -/
  | asl (m : DataMode)
  /-- `PHP` 08 (R207). -/
  | php
  /-- `PHD` 0B (R209). -/
  | phd
  /-- `BPL` 10 (R246). -/
  | bpl (r : Byte)
  /-- `TRB` 14, 1C (R141). -/
  | trb (m : DataMode)
  /-- `CLC` 18 (R223). -/
  | clc
  /-- `INC` 1A, E6, EE, F6, FE (R142). -/
  | inc (m : DataMode)
  /-- `TCS` 1B (R176). -/
  | tcs
  /-- `JSR` 20, FC (R253). -/
  | jsr (m : NearMode)
  /-- `AND` 21, 23, 25, 27, 29, 2D, 2F, 31, 32, 33, 35, 37, 39, 3D, 3F (R136). -/
  | and (m : DataMode)
  /-- `JSL` 22 (R254). -/
  | jsl (al : Addr)
  /-- `BIT` 24, 2C, 34, 3C, 89 (R139). -/
  | bit (m : DataMode)
  /-- `ROL` 26, 2A, 2E, 36, 3E (R193). -/
  | rol (m : DataMode)
  /-- `PLP` 28 (R214). -/
  | plp
  /-- `PLD` 2B (R216). -/
  | pld
  /-- `BMI` 30 (R245). -/
  | bmi (r : Byte)
  /-- `SEC` 38 (R227). -/
  | sec
  /-- `DEC` 3A, C6, CE, D6, DE (R143). -/
  | dec (m : DataMode)
  /-- `TSC` 3B (R177). -/
  | tsc
  /-- `RTI` 40 (R257). -/
  | rti
  /-- `EOR` 41, 43, 45, 47, 49, 4D, 4F, 51, 52, 53, 55, 57, 59, 5D, 5F (R138). -/
  | eor (m : DataMode)
  /-- `WDM` 42 (R275). -/
  | wdm (sig : Byte)
  /-- `MVP` 44 (R183). -/
  | mvp (dst : Byte) (src : Byte)
  /-- `LSR` 46, 4A, 4E, 56, 5E (R192). -/
  | lsr (m : DataMode)
  /-- `PHA` 48 (R204). -/
  | pha
  /-- `PHK` 4B (R210). -/
  | phk
  /-- `JMP` 4C, 6C, 7C (R251). -/
  | jmp (m : NearMode)
  /-- `BVC` 50 (R247). -/
  | bvc (r : Byte)
  /-- `MVN` 54 (R182). -/
  | mvn (dst : Byte) (src : Byte)
  /-- `CLI` 58 (R225). -/
  | cli
  /-- `PHY` 5A (R206). -/
  | phy
  /-- `TCD` 5B (R178). -/
  | tcd
  /-- `JML` 5C, DC (R252). -/
  | jml (m : FarMode)
  /-- `RTS` 60 (R255). -/
  | rts
  /-- `ADC` 61, 63, 65, 67, 69, 6D, 6F, 71, 72, 73, 75, 77, 79, 7D, 7F (R131). -/
  | adc (m : DataMode)
  /-- `PER` 62 (R219). -/
  | per (r : Word)
  /-- `STZ` 64, 74, 9C, 9E (R167). -/
  | stz (m : DataMode)
  /-- `ROR` 66, 6A, 6E, 76, 7E (R194). -/
  | ror (m : DataMode)
  /-- `PLA` 68 (R211). -/
  | pla
  /-- `RTL` 6B (R256). -/
  | rtl
  /-- `BVS` 70 (R248). -/
  | bvs (r : Byte)
  /-- `SEI` 78 (R229). -/
  | sei
  /-- `PLY` 7A (R213). -/
  | ply
  /-- `TDC` 7B (R179). -/
  | tdc
  /-- `BRA` 80 (R249). -/
  | bra (r : Byte)
  /-- `STA` 81, 83, 85, 87, 8D, 8F, 91, 92, 93, 95, 97, 99, 9D, 9F (R164). -/
  | sta (m : DataMode)
  /-- `BRL` 82 (R250). -/
  | brl (r : Word)
  /-- `STY` 84, 8C, 94 (R166). -/
  | sty (m : DataMode)
  /-- `STX` 86, 8E, 96 (R165). -/
  | stx (m : DataMode)
  /-- `DEY` 88 (R147). -/
  | dey
  /-- `TXA` 8A (R170). -/
  | txa
  /-- `PHB` 8B (R208). -/
  | phb
  /-- `BCC` 90 (R241). -/
  | bcc (r : Byte)
  /-- `TYA` 98 (R171). -/
  | tya
  /-- `TXS` 9A (R175). -/
  | txs
  /-- `TXY` 9B (R172). -/
  | txy
  /-- `LDY` A0, A4, AC, B4, BC (R163). -/
  | ldy (m : DataMode)
  /-- `LDA` A1, A3, A5, A7, A9, AD, AF, B1, B2, B3, B5, B7, B9, BD, BF (R161). -/
  | lda (m : DataMode)
  /-- `LDX` A2, A6, AE, B6, BE (R162). -/
  | ldx (m : DataMode)
  /-- `TAY` A8 (R169). -/
  | tay
  /-- `TAX` AA (R168). -/
  | tax
  /-- `PLB` AB (R215). -/
  | plb
  /-- `BCS` B0 (R242). -/
  | bcs (r : Byte)
  /-- `CLV` B8 (R226). -/
  | clv
  /-- `TSX` BA (R174). -/
  | tsx
  /-- `TYX` BB (R173). -/
  | tyx
  /-- `CPY` C0, C4, CC (R135). -/
  | cpy (m : DataMode)
  /-- `CMP` C1, C3, C5, C7, C9, CD, CF, D1, D2, D3, D5, D7, D9, DD, DF (R133). -/
  | cmp (m : DataMode)
  /-- `REP` C2 (R220). -/
  | rep (mask : Byte)
  /-- `INY` C8 (R145). -/
  | iny
  /-- `DEX` CA (R146). -/
  | dex
  /-- `WAI` CB (R272). -/
  | wai
  /-- `BNE` D0 (R244). -/
  | bne (r : Byte)
  /-- `PEI` D4 (R218). -/
  | pei (d : Byte)
  /-- `CLD` D8 (R224). -/
  | cld
  /-- `PHX` DA (R205). -/
  | phx
  /-- `STP` DB (R273). -/
  | stp
  /-- `CPX` E0, E4, EC (R134). -/
  | cpx (m : DataMode)
  /-- `SBC` E1, E3, E5, E7, E9, ED, EF, F1, F2, F3, F5, F7, F9, FD, FF (R132). -/
  | sbc (m : DataMode)
  /-- `SEP` E2 (R221). -/
  | sep (mask : Byte)
  /-- `INX` E8 (R144). -/
  | inx
  /-- `NOP` EA (R274). -/
  | nop
  /-- `XBA` EB (R180). -/
  | xba
  /-- `BEQ` F0 (R243). -/
  | beq (r : Byte)
  /-- `PEA` F4 (R217). -/
  | pea (a : Word)
  /-- `SED` F8 (R228). -/
  | sed
  /-- `PLX` FA (R212). -/
  | plx
  /-- `XCE` FB (R222). -/
  | xce
  deriving DecidableEq, Repr

end Sys2Proof
end

