-- ==== Sys2Proof/Machine/Dispatch.lean ====
section
/-! DEFINITION. The dispatch (30_encoding.md R72, R76): one meaning per instruction. -/

namespace Sys2Proof.Machine

def exec (i : Instr) (s : State) : Host.Outcome State Fault Refusal :=
  match i with
  | .brk sig => Sys2Proof.Machine.execBrk sig s
  | .ora m => Sys2Proof.Machine.execOra m s
  | .cop sig => Sys2Proof.Machine.execCop sig s
  | .tsb m => Sys2Proof.Machine.execTsb m s
  | .asl m => Sys2Proof.Machine.execAsl m s
  | .php => Sys2Proof.Machine.execPhp s
  | .phd => Sys2Proof.Machine.execPhd s
  | .bpl r => Sys2Proof.Machine.execBpl r s
  | .trb m => Sys2Proof.Machine.execTrb m s
  | .clc => Sys2Proof.Machine.execClc s
  | .inc m => Sys2Proof.Machine.execInc m s
  | .tcs => Sys2Proof.Machine.execTcs s
  | .jsr m => Sys2Proof.Machine.execJsr m s
  | .and m => Sys2Proof.Machine.execAnd m s
  | .jsl al => Sys2Proof.Machine.execJsl al s
  | .bit m => Sys2Proof.Machine.execBit m s
  | .rol m => Sys2Proof.Machine.execRol m s
  | .plp => Sys2Proof.Machine.execPlp s
  | .pld => Sys2Proof.Machine.execPld s
  | .bmi r => Sys2Proof.Machine.execBmi r s
  | .sec => Sys2Proof.Machine.execSec s
  | .dec m => Sys2Proof.Machine.execDec m s
  | .tsc => Sys2Proof.Machine.execTsc s
  | .rti => Sys2Proof.Machine.execRti s
  | .eor m => Sys2Proof.Machine.execEor m s
  | .wdm sig => Sys2Proof.Machine.execWdm sig s
  | .mvp dst src => Sys2Proof.Machine.execMvp dst src s
  | .lsr m => Sys2Proof.Machine.execLsr m s
  | .pha => Sys2Proof.Machine.execPha s
  | .phk => Sys2Proof.Machine.execPhk s
  | .jmp m => Sys2Proof.Machine.execJmp m s
  | .bvc r => Sys2Proof.Machine.execBvc r s
  | .mvn dst src => Sys2Proof.Machine.execMvn dst src s
  | .cli => Sys2Proof.Machine.execCli s
  | .phy => Sys2Proof.Machine.execPhy s
  | .tcd => Sys2Proof.Machine.execTcd s
  | .jml m => Sys2Proof.Machine.execJml m s
  | .rts => Sys2Proof.Machine.execRts s
  | .adc m => Sys2Proof.Machine.execAdc m s
  | .per r => Sys2Proof.Machine.execPer r s
  | .stz m => Sys2Proof.Machine.execStz m s
  | .ror m => Sys2Proof.Machine.execRor m s
  | .pla => Sys2Proof.Machine.execPla s
  | .rtl => Sys2Proof.Machine.execRtl s
  | .bvs r => Sys2Proof.Machine.execBvs r s
  | .sei => Sys2Proof.Machine.execSei s
  | .ply => Sys2Proof.Machine.execPly s
  | .tdc => Sys2Proof.Machine.execTdc s
  | .bra r => Sys2Proof.Machine.execBra r s
  | .sta m => Sys2Proof.Machine.execSta m s
  | .brl r => Sys2Proof.Machine.execBrl r s
  | .sty m => Sys2Proof.Machine.execSty m s
  | .stx m => Sys2Proof.Machine.execStx m s
  | .dey => Sys2Proof.Machine.execDey s
  | .txa => Sys2Proof.Machine.execTxa s
  | .phb => Sys2Proof.Machine.execPhb s
  | .bcc r => Sys2Proof.Machine.execBcc r s
  | .tya => Sys2Proof.Machine.execTya s
  | .txs => Sys2Proof.Machine.execTxs s
  | .txy => Sys2Proof.Machine.execTxy s
  | .ldy m => Sys2Proof.Machine.execLdy m s
  | .lda m => Sys2Proof.Machine.execLda m s
  | .ldx m => Sys2Proof.Machine.execLdx m s
  | .tay => Sys2Proof.Machine.execTay s
  | .tax => Sys2Proof.Machine.execTax s
  | .plb => Sys2Proof.Machine.execPlb s
  | .bcs r => Sys2Proof.Machine.execBcs r s
  | .clv => Sys2Proof.Machine.execClv s
  | .tsx => Sys2Proof.Machine.execTsx s
  | .tyx => Sys2Proof.Machine.execTyx s
  | .cpy m => Sys2Proof.Machine.execCpy m s
  | .cmp m => Sys2Proof.Machine.execCmp m s
  | .rep mask => Sys2Proof.Machine.execRep mask s
  | .iny => Sys2Proof.Machine.execIny s
  | .dex => Sys2Proof.Machine.execDex s
  | .wai => Sys2Proof.Machine.execWai s
  | .bne r => Sys2Proof.Machine.execBne r s
  | .pei d => Sys2Proof.Machine.execPei d s
  | .cld => Sys2Proof.Machine.execCld s
  | .phx => Sys2Proof.Machine.execPhx s
  | .stp => Sys2Proof.Machine.execStp s
  | .cpx m => Sys2Proof.Machine.execCpx m s
  | .sbc m => Sys2Proof.Machine.execSbc m s
  | .sep mask => Sys2Proof.Machine.execSep mask s
  | .inx => Sys2Proof.Machine.execInx s
  | .nop => Sys2Proof.Machine.execNop s
  | .xba => Sys2Proof.Machine.execXba s
  | .beq r => Sys2Proof.Machine.execBeq r s
  | .pea a => Sys2Proof.Machine.execPea a s
  | .sed => Sys2Proof.Machine.execSed s
  | .plx => Sys2Proof.Machine.execPlx s
  | .xce => Sys2Proof.Machine.execXce s

end Sys2Proof.Machine
end

