-- ==== Sys2Proof/Machine/Forms.lean ====
section
/-! DEFINITION. The two halves of the dispatch table (30_encoding.md R72, R76): the operation and the
addressing mode of each instruction. -/

namespace Sys2Proof

/-- The operation of an instruction (R76). -/
def Instr.op : Instr → Op
  | .brk _ => .brk
  | .ora _ => .ora
  | .cop _ => .cop
  | .tsb _ => .tsb
  | .asl _ => .asl
  | .php => .php
  | .phd => .phd
  | .bpl _ => .bpl
  | .trb _ => .trb
  | .clc => .clc
  | .inc _ => .inc
  | .tcs => .tcs
  | .jsr _ => .jsr
  | .and _ => .and
  | .jsl _ => .jsl
  | .bit _ => .bit
  | .rol _ => .rol
  | .plp => .plp
  | .pld => .pld
  | .bmi _ => .bmi
  | .sec => .sec
  | .dec _ => .dec
  | .tsc => .tsc
  | .rti => .rti
  | .eor _ => .eor
  | .wdm _ => .wdm
  | .mvp _ _ => .mvp
  | .lsr _ => .lsr
  | .pha => .pha
  | .phk => .phk
  | .jmp _ => .jmp
  | .bvc _ => .bvc
  | .mvn _ _ => .mvn
  | .cli => .cli
  | .phy => .phy
  | .tcd => .tcd
  | .jml _ => .jml
  | .rts => .rts
  | .adc _ => .adc
  | .per _ => .per
  | .stz _ => .stz
  | .ror _ => .ror
  | .pla => .pla
  | .rtl => .rtl
  | .bvs _ => .bvs
  | .sei => .sei
  | .ply => .ply
  | .tdc => .tdc
  | .bra _ => .bra
  | .sta _ => .sta
  | .brl _ => .brl
  | .sty _ => .sty
  | .stx _ => .stx
  | .dey => .dey
  | .txa => .txa
  | .phb => .phb
  | .bcc _ => .bcc
  | .tya => .tya
  | .txs => .txs
  | .txy => .txy
  | .ldy _ => .ldy
  | .lda _ => .lda
  | .ldx _ => .ldx
  | .tay => .tay
  | .tax => .tax
  | .plb => .plb
  | .bcs _ => .bcs
  | .clv => .clv
  | .tsx => .tsx
  | .tyx => .tyx
  | .cpy _ => .cpy
  | .cmp _ => .cmp
  | .rep _ => .rep
  | .iny => .iny
  | .dex => .dex
  | .wai => .wai
  | .bne _ => .bne
  | .pei _ => .pei
  | .cld => .cld
  | .phx => .phx
  | .stp => .stp
  | .cpx _ => .cpx
  | .sbc _ => .sbc
  | .sep _ => .sep
  | .inx => .inx
  | .nop => .nop
  | .xba => .xba
  | .beq _ => .beq
  | .pea _ => .pea
  | .sed => .sed
  | .plx => .plx
  | .xce => .xce

/-- The addressing mode of an instruction, with its operand (R73, R76). -/
def Instr.mode : Instr → Mode
  | .brk sig => .data (.sig sig)
  | .ora m => .data m
  | .cop sig => .data (.sig sig)
  | .tsb m => .data m
  | .asl m => .data m
  | .php => .stk
  | .phd => .stk
  | .bpl r => .rel8 r
  | .trb m => .data m
  | .clc => .imp
  | .inc m => .data m
  | .tcs => .imp
  | .jsr m => .near m
  | .and m => .data m
  | .jsl al => .far (.pcabsl al)
  | .bit m => .data m
  | .rol m => .data m
  | .plp => .stk
  | .pld => .stk
  | .bmi r => .rel8 r
  | .sec => .imp
  | .dec m => .data m
  | .tsc => .imp
  | .rti => .stk
  | .eor m => .data m
  | .wdm sig => .data (.sig sig)
  | .mvp dst src => .blk dst src
  | .lsr m => .data m
  | .pha => .stk
  | .phk => .stk
  | .jmp m => .near m
  | .bvc r => .rel8 r
  | .mvn dst src => .blk dst src
  | .cli => .imp
  | .phy => .stk
  | .tcd => .imp
  | .jml m => .far m
  | .rts => .stk
  | .adc m => .data m
  | .per r => .rel16 r
  | .stz m => .data m
  | .ror m => .data m
  | .pla => .stk
  | .rtl => .stk
  | .bvs r => .rel8 r
  | .sei => .imp
  | .ply => .stk
  | .tdc => .imp
  | .bra r => .rel8 r
  | .sta m => .data m
  | .brl r => .rel16 r
  | .sty m => .data m
  | .stx m => .data m
  | .dey => .imp
  | .txa => .imp
  | .phb => .stk
  | .bcc r => .rel8 r
  | .tya => .imp
  | .txs => .imp
  | .txy => .imp
  | .ldy m => .data m
  | .lda m => .data m
  | .ldx m => .data m
  | .tay => .imp
  | .tax => .imp
  | .plb => .stk
  | .bcs r => .rel8 r
  | .clv => .imp
  | .tsx => .imp
  | .tyx => .imp
  | .cpy m => .data m
  | .cmp m => .data m
  | .rep mask => .data (.imm8 mask)
  | .iny => .imp
  | .dex => .imp
  | .wai => .imp
  | .bne r => .rel8 r
  | .pei d => .data (.pei d)
  | .cld => .imp
  | .phx => .stk
  | .stp => .imp
  | .cpx m => .data m
  | .sbc m => .data m
  | .sep mask => .data (.imm8 mask)
  | .inx => .imp
  | .nop => .imp
  | .xba => .imp
  | .beq r => .rel8 r
  | .pea a => .data (.pea a)
  | .sed => .imp
  | .plx => .stk
  | .xce => .imp

end Sys2Proof
end

