-- ==== Sys2Proof/Decode.lean ====
section
/-! DEFINITION. The decoder (30_encoding.md R70 to R79), total on any bytes, and after it the encoder,
from the same tables (R73, R76). The widths `P.M` and `P.X` size the immediates (R74), so both are
arguments. -/

namespace Sys2Proof

open Sys2Proof.Machine (word long lo hi bankOf offsetOf)

/-- Why bytes are no instruction: no opcode at all, or fewer operand bytes than the opcode needs. No
opcode is rejected (R78). -/
inductive DecodeError where
  | noBytes
  | operandMissing (needed : Nat)
  deriving DecidableEq, Repr

/-- What a mode takes its operand from: the bytes after the opcode and the two flags that size an
immediate (R73, R74). -/
structure OperandBytes where
  m8 : Bool
  x8 : Bool
  b1 : Byte
  b2 : Byte
  b3 : Byte
  deriving DecidableEq, Repr

/-- Bytes 1 and 2, low byte first (R73, R54). -/
def OperandBytes.w16 (o : OperandBytes) : Word := word o.b2 o.b1

/-- Bytes 1 to 3, low byte first (R73, R54). -/
def OperandBytes.w24 (o : OperandBytes) : Addr := long o.b3 o.b2 o.b1

/-- An m-sized immediate: one byte if `P.M = 1`, else two (R74). -/
def OperandBytes.immM (o : OperandBytes) : Imm := if o.m8 then .byte o.b1 else .word o.w16

/-- An x-sized immediate: one byte if `P.X = 1`, else two (R74). -/
def OperandBytes.immX (o : OperandBytes) : Imm := if o.x8 then .byte o.b1 else .word o.w16

/-! ### The opcode map, one row of R76 per definition; the last column stands under `_` -/

/-- Row 0x of R76. -/
def opRow0 (o : OperandBytes) : Nat → Instr
  | 0x0 => .brk o.b1
  | 0x1 => .ora (.dpindx o.b1)
  | 0x2 => .cop o.b1
  | 0x3 => .ora (.sr o.b1)
  | 0x4 => .tsb (.dp o.b1)
  | 0x5 => .ora (.dp o.b1)
  | 0x6 => .asl (.dp o.b1)
  | 0x7 => .ora (.dpindl o.b1)
  | 0x8 => .php
  | 0x9 => .ora (.immM o.immM)
  | 0xA => .asl .acc
  | 0xB => .phd
  | 0xC => .tsb (.abs o.w16)
  | 0xD => .ora (.abs o.w16)
  | 0xE => .asl (.abs o.w16)
  | _ => .ora (.absl o.w24)

/-- Row 1x of R76. -/
def opRow1 (o : OperandBytes) : Nat → Instr
  | 0x0 => .bpl o.b1
  | 0x1 => .ora (.dpindy o.b1)
  | 0x2 => .ora (.dpind o.b1)
  | 0x3 => .ora (.sriy o.b1)
  | 0x4 => .trb (.dp o.b1)
  | 0x5 => .ora (.dpx o.b1)
  | 0x6 => .asl (.dpx o.b1)
  | 0x7 => .ora (.dpindly o.b1)
  | 0x8 => .clc
  | 0x9 => .ora (.absy o.w16)
  | 0xA => .inc .acc
  | 0xB => .tcs
  | 0xC => .trb (.abs o.w16)
  | 0xD => .ora (.absx o.w16)
  | 0xE => .asl (.absx o.w16)
  | _ => .ora (.abslx o.w24)

/-- Row 2x of R76. -/
def opRow2 (o : OperandBytes) : Nat → Instr
  | 0x0 => .jsr (.pcabs o.w16)
  | 0x1 => .and (.dpindx o.b1)
  | 0x2 => .jsl o.w24
  | 0x3 => .and (.sr o.b1)
  | 0x4 => .bit (.dp o.b1)
  | 0x5 => .and (.dp o.b1)
  | 0x6 => .rol (.dp o.b1)
  | 0x7 => .and (.dpindl o.b1)
  | 0x8 => .plp
  | 0x9 => .and (.immM o.immM)
  | 0xA => .rol .acc
  | 0xB => .pld
  | 0xC => .bit (.abs o.w16)
  | 0xD => .and (.abs o.w16)
  | 0xE => .rol (.abs o.w16)
  | _ => .and (.absl o.w24)

/-- Row 3x of R76. -/
def opRow3 (o : OperandBytes) : Nat → Instr
  | 0x0 => .bmi o.b1
  | 0x1 => .and (.dpindy o.b1)
  | 0x2 => .and (.dpind o.b1)
  | 0x3 => .and (.sriy o.b1)
  | 0x4 => .bit (.dpx o.b1)
  | 0x5 => .and (.dpx o.b1)
  | 0x6 => .rol (.dpx o.b1)
  | 0x7 => .and (.dpindly o.b1)
  | 0x8 => .sec
  | 0x9 => .and (.absy o.w16)
  | 0xA => .dec .acc
  | 0xB => .tsc
  | 0xC => .bit (.absx o.w16)
  | 0xD => .and (.absx o.w16)
  | 0xE => .rol (.absx o.w16)
  | _ => .and (.abslx o.w24)

/-- Row 4x of R76. -/
def opRow4 (o : OperandBytes) : Nat → Instr
  | 0x0 => .rti
  | 0x1 => .eor (.dpindx o.b1)
  | 0x2 => .wdm o.b1
  | 0x3 => .eor (.sr o.b1)
  | 0x4 => .mvp o.b1 o.b2
  | 0x5 => .eor (.dp o.b1)
  | 0x6 => .lsr (.dp o.b1)
  | 0x7 => .eor (.dpindl o.b1)
  | 0x8 => .pha
  | 0x9 => .eor (.immM o.immM)
  | 0xA => .lsr .acc
  | 0xB => .phk
  | 0xC => .jmp (.pcabs o.w16)
  | 0xD => .eor (.abs o.w16)
  | 0xE => .lsr (.abs o.w16)
  | _ => .eor (.absl o.w24)

/-- Row 5x of R76. -/
def opRow5 (o : OperandBytes) : Nat → Instr
  | 0x0 => .bvc o.b1
  | 0x1 => .eor (.dpindy o.b1)
  | 0x2 => .eor (.dpind o.b1)
  | 0x3 => .eor (.sriy o.b1)
  | 0x4 => .mvn o.b1 o.b2
  | 0x5 => .eor (.dpx o.b1)
  | 0x6 => .lsr (.dpx o.b1)
  | 0x7 => .eor (.dpindly o.b1)
  | 0x8 => .cli
  | 0x9 => .eor (.absy o.w16)
  | 0xA => .phy
  | 0xB => .tcd
  | 0xC => .jml (.pcabsl o.w24)
  | 0xD => .eor (.absx o.w16)
  | 0xE => .lsr (.absx o.w16)
  | _ => .eor (.abslx o.w24)

/-- Row 6x of R76. -/
def opRow6 (o : OperandBytes) : Nat → Instr
  | 0x0 => .rts
  | 0x1 => .adc (.dpindx o.b1)
  | 0x2 => .per o.w16
  | 0x3 => .adc (.sr o.b1)
  | 0x4 => .stz (.dp o.b1)
  | 0x5 => .adc (.dp o.b1)
  | 0x6 => .ror (.dp o.b1)
  | 0x7 => .adc (.dpindl o.b1)
  | 0x8 => .pla
  | 0x9 => .adc (.immM o.immM)
  | 0xA => .ror .acc
  | 0xB => .rtl
  | 0xC => .jmp (.absind o.w16)
  | 0xD => .adc (.abs o.w16)
  | 0xE => .ror (.abs o.w16)
  | _ => .adc (.absl o.w24)

/-- Row 7x of R76. -/
def opRow7 (o : OperandBytes) : Nat → Instr
  | 0x0 => .bvs o.b1
  | 0x1 => .adc (.dpindy o.b1)
  | 0x2 => .adc (.dpind o.b1)
  | 0x3 => .adc (.sriy o.b1)
  | 0x4 => .stz (.dpx o.b1)
  | 0x5 => .adc (.dpx o.b1)
  | 0x6 => .ror (.dpx o.b1)
  | 0x7 => .adc (.dpindly o.b1)
  | 0x8 => .sei
  | 0x9 => .adc (.absy o.w16)
  | 0xA => .ply
  | 0xB => .tdc
  | 0xC => .jmp (.absindx o.w16)
  | 0xD => .adc (.absx o.w16)
  | 0xE => .ror (.absx o.w16)
  | _ => .adc (.abslx o.w24)

/-- Row 8x of R76. -/
def opRow8 (o : OperandBytes) : Nat → Instr
  | 0x0 => .bra o.b1
  | 0x1 => .sta (.dpindx o.b1)
  | 0x2 => .brl o.w16
  | 0x3 => .sta (.sr o.b1)
  | 0x4 => .sty (.dp o.b1)
  | 0x5 => .sta (.dp o.b1)
  | 0x6 => .stx (.dp o.b1)
  | 0x7 => .sta (.dpindl o.b1)
  | 0x8 => .dey
  | 0x9 => .bit (.immM o.immM)
  | 0xA => .txa
  | 0xB => .phb
  | 0xC => .sty (.abs o.w16)
  | 0xD => .sta (.abs o.w16)
  | 0xE => .stx (.abs o.w16)
  | _ => .sta (.absl o.w24)

/-- Row 9x of R76. -/
def opRow9 (o : OperandBytes) : Nat → Instr
  | 0x0 => .bcc o.b1
  | 0x1 => .sta (.dpindy o.b1)
  | 0x2 => .sta (.dpind o.b1)
  | 0x3 => .sta (.sriy o.b1)
  | 0x4 => .sty (.dpx o.b1)
  | 0x5 => .sta (.dpx o.b1)
  | 0x6 => .stx (.dpy o.b1)
  | 0x7 => .sta (.dpindly o.b1)
  | 0x8 => .tya
  | 0x9 => .sta (.absy o.w16)
  | 0xA => .txs
  | 0xB => .txy
  | 0xC => .stz (.abs o.w16)
  | 0xD => .sta (.absx o.w16)
  | 0xE => .stz (.absx o.w16)
  | _ => .sta (.abslx o.w24)

/-- Row Ax of R76. -/
def opRowA (o : OperandBytes) : Nat → Instr
  | 0x0 => .ldy (.immX o.immX)
  | 0x1 => .lda (.dpindx o.b1)
  | 0x2 => .ldx (.immX o.immX)
  | 0x3 => .lda (.sr o.b1)
  | 0x4 => .ldy (.dp o.b1)
  | 0x5 => .lda (.dp o.b1)
  | 0x6 => .ldx (.dp o.b1)
  | 0x7 => .lda (.dpindl o.b1)
  | 0x8 => .tay
  | 0x9 => .lda (.immM o.immM)
  | 0xA => .tax
  | 0xB => .plb
  | 0xC => .ldy (.abs o.w16)
  | 0xD => .lda (.abs o.w16)
  | 0xE => .ldx (.abs o.w16)
  | _ => .lda (.absl o.w24)

/-- Row Bx of R76. -/
def opRowB (o : OperandBytes) : Nat → Instr
  | 0x0 => .bcs o.b1
  | 0x1 => .lda (.dpindy o.b1)
  | 0x2 => .lda (.dpind o.b1)
  | 0x3 => .lda (.sriy o.b1)
  | 0x4 => .ldy (.dpx o.b1)
  | 0x5 => .lda (.dpx o.b1)
  | 0x6 => .ldx (.dpy o.b1)
  | 0x7 => .lda (.dpindly o.b1)
  | 0x8 => .clv
  | 0x9 => .lda (.absy o.w16)
  | 0xA => .tsx
  | 0xB => .tyx
  | 0xC => .ldy (.absx o.w16)
  | 0xD => .lda (.absx o.w16)
  | 0xE => .ldx (.absy o.w16)
  | _ => .lda (.abslx o.w24)

/-- Row Cx of R76. -/
def opRowC (o : OperandBytes) : Nat → Instr
  | 0x0 => .cpy (.immX o.immX)
  | 0x1 => .cmp (.dpindx o.b1)
  | 0x2 => .rep o.b1
  | 0x3 => .cmp (.sr o.b1)
  | 0x4 => .cpy (.dp o.b1)
  | 0x5 => .cmp (.dp o.b1)
  | 0x6 => .dec (.dp o.b1)
  | 0x7 => .cmp (.dpindl o.b1)
  | 0x8 => .iny
  | 0x9 => .cmp (.immM o.immM)
  | 0xA => .dex
  | 0xB => .wai
  | 0xC => .cpy (.abs o.w16)
  | 0xD => .cmp (.abs o.w16)
  | 0xE => .dec (.abs o.w16)
  | _ => .cmp (.absl o.w24)

/-- Row Dx of R76. -/
def opRowD (o : OperandBytes) : Nat → Instr
  | 0x0 => .bne o.b1
  | 0x1 => .cmp (.dpindy o.b1)
  | 0x2 => .cmp (.dpind o.b1)
  | 0x3 => .cmp (.sriy o.b1)
  | 0x4 => .pei o.b1
  | 0x5 => .cmp (.dpx o.b1)
  | 0x6 => .dec (.dpx o.b1)
  | 0x7 => .cmp (.dpindly o.b1)
  | 0x8 => .cld
  | 0x9 => .cmp (.absy o.w16)
  | 0xA => .phx
  | 0xB => .stp
  | 0xC => .jml (.absindl o.w16)
  | 0xD => .cmp (.absx o.w16)
  | 0xE => .dec (.absx o.w16)
  | _ => .cmp (.abslx o.w24)

/-- Row Ex of R76. -/
def opRowE (o : OperandBytes) : Nat → Instr
  | 0x0 => .cpx (.immX o.immX)
  | 0x1 => .sbc (.dpindx o.b1)
  | 0x2 => .sep o.b1
  | 0x3 => .sbc (.sr o.b1)
  | 0x4 => .cpx (.dp o.b1)
  | 0x5 => .sbc (.dp o.b1)
  | 0x6 => .inc (.dp o.b1)
  | 0x7 => .sbc (.dpindl o.b1)
  | 0x8 => .inx
  | 0x9 => .sbc (.immM o.immM)
  | 0xA => .nop
  | 0xB => .xba
  | 0xC => .cpx (.abs o.w16)
  | 0xD => .sbc (.abs o.w16)
  | 0xE => .inc (.abs o.w16)
  | _ => .sbc (.absl o.w24)

/-- Row Fx of R76. -/
def opRowF (o : OperandBytes) : Nat → Instr
  | 0x0 => .beq o.b1
  | 0x1 => .sbc (.dpindy o.b1)
  | 0x2 => .sbc (.dpind o.b1)
  | 0x3 => .sbc (.sriy o.b1)
  | 0x4 => .pea o.w16
  | 0x5 => .sbc (.dpx o.b1)
  | 0x6 => .inc (.dpx o.b1)
  | 0x7 => .sbc (.dpindly o.b1)
  | 0x8 => .sed
  | 0x9 => .sbc (.absy o.w16)
  | 0xA => .plx
  | 0xB => .xce
  | 0xC => .jsr (.absindx o.w16)
  | 0xD => .sbc (.absx o.w16)
  | 0xE => .inc (.absx o.w16)
  | _ => .sbc (.abslx o.w24)

/-- The opcode map (R76): row `hi`, column `lo` is opcode `hi*16 + lo`. -/
def opMap (o : OperandBytes) (col : Nat) : Nat → Instr
  | 0x0 => opRow0 o col
  | 0x1 => opRow1 o col
  | 0x2 => opRow2 o col
  | 0x3 => opRow3 o col
  | 0x4 => opRow4 o col
  | 0x5 => opRow5 o col
  | 0x6 => opRow6 o col
  | 0x7 => opRow7 o col
  | 0x8 => opRow8 o col
  | 0x9 => opRow9 o col
  | 0xA => opRowA o col
  | 0xB => opRowB o col
  | 0xC => opRowC o col
  | 0xD => opRowD o col
  | 0xE => opRowE o col
  | _ => opRowF o col

/-- The instruction of opcode `op` with the operand bytes `o`; bytes past its length are not read
(R76). -/
def instrOf (op : Byte) (o : OperandBytes) : Instr := opMap o (op.toNat % 16) (op.toNat / 16)

/-! ### The operand bytes of a mode and the length of an instruction (R73, R75) -/

/-- The bytes of an immediate, low byte first (R73). -/
def immBytes : Imm → List Byte
  | .byte v => [v]
  | .word v => [lo v, hi v]

/-- The bytes of a 16-bit operand (R73). -/
def wordBytes (v : Word) : List Byte := [lo v, hi v]

/-- The bytes of a 24-bit operand (R73). -/
def longBytes (v : Addr) : List Byte := [lo (offsetOf v), hi (offsetOf v), bankOf v]

/-- Bytes 1 to 3 of a mode with an operand locator (R73). -/
def DataMode.bytes : DataMode → List Byte
  | .acc => []
  | .immM v => immBytes v
  | .immX v => immBytes v
  | .imm8 v => [v]
  | .sig v => [v]
  | .dp d => [d]
  | .dpx d => [d]
  | .dpy d => [d]
  | .dpind d => [d]
  | .dpindx d => [d]
  | .dpindy d => [d]
  | .dpindl d => [d]
  | .dpindly d => [d]
  | .abs a => wordBytes a
  | .absx a => wordBytes a
  | .absy a => wordBytes a
  | .absl al => longBytes al
  | .abslx al => longBytes al
  | .sr d => [d]
  | .sriy d => [d]
  | .pei d => [d]
  | .pea a => wordBytes a

/-- Bytes 1 to 3 of a mode with a 16-bit target (R73). -/
def NearMode.bytes : NearMode → List Byte
  | .pcabs a => wordBytes a
  | .absind a => wordBytes a
  | .absindx a => wordBytes a

/-- Bytes 1 to 3 of a mode with a 24-bit target (R73). -/
def FarMode.bytes : FarMode → List Byte
  | .pcabsl al => longBytes al
  | .absindl a => wordBytes a

/-- Bytes 1 to 3 of every mode (R73); a block move stores its destination bank first. -/
def Mode.bytes : Mode → List Byte
  | .data m => m.bytes
  | .near m => m.bytes
  | .far m => m.bytes
  | .imp => []
  | .stk => []
  | .rel8 r => [r]
  | .rel16 r => wordBytes r
  | .blk dst src => [dst, src]

/-- The length of an instruction in bytes (R75). -/
def Instr.length (i : Instr) : Nat := 1 + i.mode.bytes.length

/-- The number of operand bytes of opcode `op` under the flags `P.M` and `P.X` (R75). -/
def operandCount (m8 x8 : Bool) (op : Byte) : Nat :=
  (instrOf op { m8 := m8, x8 := x8, b1 := 0, b2 := 0, b3 := 0 }).mode.bytes.length

/-- The instruction of opcode `op` whose operand bytes are the first of `rest` (R70). -/
def instrFrom (m8 x8 : Bool) (op : Byte) (rest : List Byte) : Instr :=
  instrOf op
    { m8 := m8, x8 := x8, b1 := rest.getD 0 0, b2 := rest.getD 1 0, b3 := rest.getD 2 0 }

/-- The decoder: the instruction the bytes begin with under the flags `P.M` and `P.X`, and the bytes
after it. -/
def decode (m8 x8 : Bool) : List Byte → Except DecodeError (Instr × List Byte)
  | [] => .error .noBytes
  | op :: rest =>
    if rest.length < operandCount m8 x8 op then .error (.operandMissing (operandCount m8 x8 op))
    else .ok (instrFrom m8 x8 op rest, rest.drop (operandCount m8 x8 op))

/-! ### The encoder -/

/-- The columns of the eight accumulator operations (R77). -/
def aluColumn : DataMode → Option Byte
  | .immM _ => some 0x09
  | .dp _ => some 0x05
  | .dpx _ => some 0x15
  | .dpind _ => some 0x12
  | .dpindx _ => some 0x01
  | .dpindy _ => some 0x11
  | .dpindl _ => some 0x07
  | .dpindly _ => some 0x17
  | .abs _ => some 0x0D
  | .absx _ => some 0x1D
  | .absy _ => some 0x19
  | .absl _ => some 0x0F
  | .abslx _ => some 0x1F
  | .sr _ => some 0x03
  | .sriy _ => some 0x13
  | _ => none

/-- The opcode `0x20*i + c` of an accumulator operation (R77). -/
def aluOpcode (base : Byte) (m : DataMode) : Option Byte := (aluColumn m).map (base + ·)

/-- The opcodes of `TSB` (R140). -/
def DataMode.tsbOpcode : DataMode → Option Byte
  | .dp _ => some 0x04
  | .abs _ => some 0x0C
  | _ => none

/-- The opcodes of `ASL` (R191). -/
def DataMode.aslOpcode : DataMode → Option Byte
  | .dp _ => some 0x06
  | .acc => some 0x0A
  | .abs _ => some 0x0E
  | .dpx _ => some 0x16
  | .absx _ => some 0x1E
  | _ => none

/-- The opcodes of `TRB` (R141). -/
def DataMode.trbOpcode : DataMode → Option Byte
  | .dp _ => some 0x14
  | .abs _ => some 0x1C
  | _ => none

/-- The opcodes of `INC` (R142). -/
def DataMode.incOpcode : DataMode → Option Byte
  | .acc => some 0x1A
  | .dp _ => some 0xE6
  | .abs _ => some 0xEE
  | .dpx _ => some 0xF6
  | .absx _ => some 0xFE
  | _ => none

/-- The opcodes of `JSR` (R253). -/
def NearMode.jsrOpcode : NearMode → Option Byte
  | .pcabs _ => some 0x20
  | .absindx _ => some 0xFC
  | _ => none

/-- The opcodes of `BIT` (R139). -/
def DataMode.bitOpcode : DataMode → Option Byte
  | .dp _ => some 0x24
  | .abs _ => some 0x2C
  | .dpx _ => some 0x34
  | .absx _ => some 0x3C
  | .immM _ => some 0x89
  | _ => none

/-- The opcodes of `ROL` (R193). -/
def DataMode.rolOpcode : DataMode → Option Byte
  | .dp _ => some 0x26
  | .acc => some 0x2A
  | .abs _ => some 0x2E
  | .dpx _ => some 0x36
  | .absx _ => some 0x3E
  | _ => none

/-- The opcodes of `DEC` (R143). -/
def DataMode.decOpcode : DataMode → Option Byte
  | .acc => some 0x3A
  | .dp _ => some 0xC6
  | .abs _ => some 0xCE
  | .dpx _ => some 0xD6
  | .absx _ => some 0xDE
  | _ => none

/-- The opcodes of `LSR` (R192). -/
def DataMode.lsrOpcode : DataMode → Option Byte
  | .dp _ => some 0x46
  | .acc => some 0x4A
  | .abs _ => some 0x4E
  | .dpx _ => some 0x56
  | .absx _ => some 0x5E
  | _ => none

/-- The opcodes of `JMP` (R251). -/
def NearMode.jmpOpcode : NearMode → Option Byte
  | .pcabs _ => some 0x4C
  | .absind _ => some 0x6C
  | .absindx _ => some 0x7C

/-- The opcodes of `JML` (R252). -/
def FarMode.jmlOpcode : FarMode → Option Byte
  | .pcabsl _ => some 0x5C
  | .absindl _ => some 0xDC

/-- The opcodes of `STZ` (R167). -/
def DataMode.stzOpcode : DataMode → Option Byte
  | .dp _ => some 0x64
  | .dpx _ => some 0x74
  | .abs _ => some 0x9C
  | .absx _ => some 0x9E
  | _ => none

/-- The opcodes of `ROR` (R194). -/
def DataMode.rorOpcode : DataMode → Option Byte
  | .dp _ => some 0x66
  | .acc => some 0x6A
  | .abs _ => some 0x6E
  | .dpx _ => some 0x76
  | .absx _ => some 0x7E
  | _ => none

/-- The opcodes of `STA` (R164). -/
def DataMode.staOpcode : DataMode → Option Byte
  | .immM _ => none
  | m => aluOpcode 0x80 m

/-- The opcodes of `STY` (R166). -/
def DataMode.styOpcode : DataMode → Option Byte
  | .dp _ => some 0x84
  | .abs _ => some 0x8C
  | .dpx _ => some 0x94
  | _ => none

/-- The opcodes of `STX` (R165). -/
def DataMode.stxOpcode : DataMode → Option Byte
  | .dp _ => some 0x86
  | .abs _ => some 0x8E
  | .dpy _ => some 0x96
  | _ => none

/-- The opcodes of `LDY` (R163). -/
def DataMode.ldyOpcode : DataMode → Option Byte
  | .immX _ => some 0xA0
  | .dp _ => some 0xA4
  | .abs _ => some 0xAC
  | .dpx _ => some 0xB4
  | .absx _ => some 0xBC
  | _ => none

/-- The opcodes of `LDX` (R162). -/
def DataMode.ldxOpcode : DataMode → Option Byte
  | .immX _ => some 0xA2
  | .dp _ => some 0xA6
  | .abs _ => some 0xAE
  | .dpy _ => some 0xB6
  | .absy _ => some 0xBE
  | _ => none

/-- The opcodes of `CPY` (R135). -/
def DataMode.cpyOpcode : DataMode → Option Byte
  | .immX _ => some 0xC0
  | .dp _ => some 0xC4
  | .abs _ => some 0xCC
  | _ => none

/-- The opcodes of `CPX` (R134). -/
def DataMode.cpxOpcode : DataMode → Option Byte
  | .immX _ => some 0xE0
  | .dp _ => some 0xE4
  | .abs _ => some 0xEC
  | _ => none

/-- The opcode of an instruction, where its mnemonic has its mode (R76). -/
def Instr.opcode : Instr → Option Byte
  | .brk _ => some 0x00
  | .ora m => aluOpcode 0x00 m
  | .cop _ => some 0x02
  | .tsb m => m.tsbOpcode
  | .asl m => m.aslOpcode
  | .php => some 0x08
  | .phd => some 0x0B
  | .bpl _ => some 0x10
  | .trb m => m.trbOpcode
  | .clc => some 0x18
  | .inc m => m.incOpcode
  | .tcs => some 0x1B
  | .jsr m => m.jsrOpcode
  | .and m => aluOpcode 0x20 m
  | .jsl _ => some 0x22
  | .bit m => m.bitOpcode
  | .rol m => m.rolOpcode
  | .plp => some 0x28
  | .pld => some 0x2B
  | .bmi _ => some 0x30
  | .sec => some 0x38
  | .dec m => m.decOpcode
  | .tsc => some 0x3B
  | .rti => some 0x40
  | .eor m => aluOpcode 0x40 m
  | .wdm _ => some 0x42
  | .mvp _ _ => some 0x44
  | .lsr m => m.lsrOpcode
  | .pha => some 0x48
  | .phk => some 0x4B
  | .jmp m => m.jmpOpcode
  | .bvc _ => some 0x50
  | .mvn _ _ => some 0x54
  | .cli => some 0x58
  | .phy => some 0x5A
  | .tcd => some 0x5B
  | .jml m => m.jmlOpcode
  | .rts => some 0x60
  | .adc m => aluOpcode 0x60 m
  | .per _ => some 0x62
  | .stz m => m.stzOpcode
  | .ror m => m.rorOpcode
  | .pla => some 0x68
  | .rtl => some 0x6B
  | .bvs _ => some 0x70
  | .sei => some 0x78
  | .ply => some 0x7A
  | .tdc => some 0x7B
  | .bra _ => some 0x80
  | .sta m => m.staOpcode
  | .brl _ => some 0x82
  | .sty m => m.styOpcode
  | .stx m => m.stxOpcode
  | .dey => some 0x88
  | .txa => some 0x8A
  | .phb => some 0x8B
  | .bcc _ => some 0x90
  | .tya => some 0x98
  | .txs => some 0x9A
  | .txy => some 0x9B
  | .ldy m => m.ldyOpcode
  | .lda m => aluOpcode 0xA0 m
  | .ldx m => m.ldxOpcode
  | .tay => some 0xA8
  | .tax => some 0xAA
  | .plb => some 0xAB
  | .bcs _ => some 0xB0
  | .clv => some 0xB8
  | .tsx => some 0xBA
  | .tyx => some 0xBB
  | .cpy m => m.cpyOpcode
  | .cmp m => aluOpcode 0xC0 m
  | .rep _ => some 0xC2
  | .iny => some 0xC8
  | .dex => some 0xCA
  | .wai => some 0xCB
  | .bne _ => some 0xD0
  | .pei _ => some 0xD4
  | .cld => some 0xD8
  | .phx => some 0xDA
  | .stp => some 0xDB
  | .cpx m => m.cpxOpcode
  | .sbc m => aluOpcode 0xE0 m
  | .sep _ => some 0xE2
  | .inx => some 0xE8
  | .nop => some 0xEA
  | .xba => some 0xEB
  | .beq _ => some 0xF0
  | .pea _ => some 0xF4
  | .sed => some 0xF8
  | .plx => some 0xFA
  | .xce => some 0xFB

/-- The bytes of a well-formed instruction: its opcode, then the bytes of its mode (R70, R73). -/
def encode (i : Instr) : Option (List Byte) := i.opcode.map (· :: i.mode.bytes)

/-! ### One instruction from a number, as opcode_table.json numbers its bits -/

/-- Byte `j` of the number `w`. -/
def byteOfNat (w j : Nat) : Byte := BitVec.ofNat 8 (w >>> (8 * j))

/-- The four bytes at the lowest addresses of an instruction whose first `nbits` bits are `w` and whose
later bits are 0. -/
def tableBytes (nbits w : Nat) : List Byte :=
  [byteOfNat (w % 2 ^ nbits) 0, byteOfNat (w % 2 ^ nbits) 1, byteOfNat (w % 2 ^ nbits) 2,
    byteOfNat (w % 2 ^ nbits) 3]

/-- The instruction the decoder reads from the bits `w`, with `P.M = P.X = 1` as after reset
(10_state.md R45; notes/assumptions/11.md). -/
def decodeTableWord (nbits w : Nat) : Option Instr :=
  match decode true true (tableBytes nbits w) with
  | .ok r => some r.1
  | .error _ => none

end Sys2Proof
end

