-- ==== Sys2Proof/Machine/Fetch.lean ====
section
/-! DEFINITION. Fetching an instruction (30_encoding.md R71, R72), and placing one where the next fetch
reads it. -/

namespace Sys2Proof.Machine

/-- A fetch (R71): the byte at `K:PC`, after which `PC` is one further inside its bank. -/
def State.fetch8 (s : State) (kind : AccessKind) : Byte × State :=
  let r := s.read8 kind (addr s.k s.pc)
  (r.1, { r.2 with pc := r.2.pc + 1 })

/-- `n` operand bytes, in order (R71). -/
def State.fetchOperands (s : State) : Nat → List Byte × State
  | 0 => ([], s)
  | n + 1 =>
    let r := s.fetch8 .operand
    let rest := r.2.fetchOperands n
    (r.1 :: rest.1, rest.2)

/-- `FetchOp()` and the operand fetches of its mode (R71, R72): the instruction at `K:PC` under the
widths in force, and the state with `PC` after it. -/
def State.fetchInstr (s : State) : Instr × State :=
  let op := s.fetch8 .opcodeFetch
  let rest := op.2.fetchOperands (operandCount s.flagM s.flagX op.1)
  (instrFrom s.flagM s.flagX op.1 rest.1, rest.2)

/-- Bytes placed in bank `K` from offset `o` on (10_state.md R27: offsets wrap inside the bank). -/
def placeBytes (mem : List Host.Cell) (k : Byte) (o : Word) : List Byte → List Host.Cell
  | [] => mem
  | b :: rest => placeBytes (Memory.write mem (addr k o).toNat b) k (o + 1) rest

/-- The state whose next step fetches the instruction with the bits `w`: its four bytes stand at `K:PC`,
the core runs, and the bus answers from memory (notes/assumptions/11.md). -/
def State.placeInstr (s : State) (nbits w : Nat) : State :=
  { s with mem := placeBytes s.mem s.k s.pc (tableBytes nbits w), run := .running, env := [] }

end Sys2Proof.Machine
end

