-- ==== Sys2Proof/Machine/Idle.lean ====
section
/-! DEFINITION. The open number of idle cycles of an instruction (00_scope.md R7;
70_reset_and_hazards.md R329; 92_eei_decisions.md D21). -/

namespace Sys2Proof

/-- `IdleCycles(op, state)`, OPEN (R7): how many idle cycles the instruction spends, from the state its
operation left, whose `trace` holds every access it made. It has no body: no proof can see a value of
it (notes/assumptions/5.md). -/
opaque Config.idleCycles : Instr → Machine.State → Nat

namespace Machine

/-- The instruction's idle cycles at the end of its operation step (R329). Only `CycleCount` depends on
them; line calls made during them stand in the script with its last bus access
(notes/assumptions/5.md). -/
def State.spendIdle (s : State) (i : Instr) : State :=
  { s with cycles := s.cycles + Config.idleCycles i s }

end Machine

end Sys2Proof
end

