-- ==== Sys2Proof/Machine/Interrupts.lean ====
section
/-! DEFINITION. The interrupt scheduler: the wake condition, the interrupt check and the boundary after
an instruction (60_exceptions.md R284 to R288; 30_encoding.md R72). -/

namespace Sys2Proof.Machine

/-- The vector of NMI in the mode `e` (R285). -/
def nmiVector (e : Bool) : Word := if e then 0xFFFA else 0xFFEA

/-- The vector of IRQ in the mode `e` (R285). -/
def irqVector (e : Bool) : Word := if e then 0xFFFE else 0xFFEE

/-- `IrqRequested` (R282). -/
def State.irqRequested (s : State) : Bool := s.irqLines != 0

/-- `WakeCondition()` (R288): `P.I` is not read. -/
def State.wakeCondition (s : State) : Bool := s.nmiPending || s.irqRequested

/-- `InterruptCheck()` (R284). -/
def State.interruptCheck (s : State) : State :=
  if s.nmiPending then ({ s with nmiPending := false }).enter .hardware (nmiVector s.e)
  else if s.irqRequested && !s.flagI then s.enter .hardware (irqVector s.e)
  else s

/-- A `WAI` whose wake condition is already present wakes at once (R72, R272). -/
def State.wakeAtOnce (s : State) : State :=
  if s.run = .waiting ∧ s.wakeCondition then { s with run := .running } else s

/-- The end of a step that executed instruction `i` (R72): its idle cycles, then, unless it was `STP`,
the wake of a `WAI` and the interrupt check. -/
def State.boundary (s : State) (i : Instr) : State :=
  if s.run = .stopped then s.spendIdle i
  else (s.spendIdle i).wakeAtOnce.interruptCheck

/-- A step of a waiting core (R288): it wakes and checks, or spends one idle cycle. -/
def State.waitStep (s : State) : State :=
  if s.wakeCondition then ({ s with run := .running }).interruptCheck else s.idle

end Sys2Proof.Machine
end

