-- ==== Sys2Proof/Machine/Step.lean ====
section
/-! DEFINITION. One step (30_encoding.md R72). -/

namespace Sys2Proof.Machine

/-- A step that runs instruction `i`, already fetched, to its boundary. -/
def State.runInstr (s : State) (i : Instr) : Result :=
  match exec i s with
  | .next t => .next (t.boundary i)
  | .fault r => .fault r
  | .refused r => .refused r

/-- `Step()` (R72). The record of accesses begins anew. -/
def step (s : State) : Host.Outcome State Fault Refusal :=
  let s0 := { s with trace := [] }
  match s0.run with
  | .stopped => .next s0.idle
  | .waiting => .next s0.waitStep
  | .running => s0.fetchInstr.2.runInstr s0.fetchInstr.1

/-- `s` with the instruction of the bits `w` where its next step fetches (notes/assumptions/11.md). -/
def State.withFetchWord (s : State) (nbits w : Nat) : State := s.placeInstr nbits w

end Sys2Proof.Machine
end

