-- ==== Sys2Proof/Machine/Lines.lean ====
section
/-! DEFINITION. What the world outside can call between steps (60_exceptions.md R281, R282, R296, R298;
40_addressing.md R123): the interrupt-line interface, the snapshot and the introspection. -/

namespace Sys2Proof.Machine

/-- `assertNmi()` (R281). -/
def assertNmi (s : State) : State := { s with nmiPending := true }

/-- `assertIrq(n)`; an id outside `0 .. IRQ_SOURCES-1` is refused (R282). -/
def assertIrq (n : Nat) (s : State) : Result :=
  if n < Config.irqSources then .next { s with irqLines := irqSet s.irqLines n }
  else .refused (.irqSourceOutOfRange n)

/-- `clearIrq(n)`; an id outside `0 .. IRQ_SOURCES-1` is refused (R282). -/
def clearIrq (n : Nat) (s : State) : Result :=
  if n < Config.irqSources then .next { s with irqLines := irqClear s.irqLines n }
  else .refused (.irqSourceOutOfRange n)

/-- `isIrqAsserted(n)`: bit `n`, and nothing changes; an id out of range is refused (R282). -/
def isIrqAsserted (n : Nat) (s : State) : Host.Outcome Bool Fault Refusal :=
  if n < Config.irqSources then .next (s.irqLines.testBit n)
  else .refused (.irqSourceOutOfRange n)

/-- The record the source calls CpuState (10_state.md R20, R43). -/
structure CpuSnapshot where
  pc : Word
  k : Byte
  dbr : Byte
  d : Word
  sp : Word
  a : Word
  x : Word
  y : Word
  ps : Byte
  emulationMode : Bool
  cycleCount : Nat
  deriving DecidableEq, Repr

/-- The read-only snapshot taken between steps (R43, R296). -/
def State.snapshot (s : State) : CpuSnapshot :=
  { pc := s.pc, k := s.k, dbr := s.dbr, d := s.d, sp := s.sp, a := s.a, x := s.x, y := s.y,
    ps := s.p, emulationMode := s.e, cycleCount := s.cycles }

/-- The operand width an instruction's rule uses (R123). -/
inductive WidthRule where
  | m
  | x
  | bits8
  | bits16
  | noOperand
  deriving DecidableEq, Repr

/-- The operand width of each operation, from the rules of files 41 to 47 (R123). DESIGN CHOICE where the
rule names no width or several (notes/assumptions/18.md): `XBA` (R180), `MVN` and `MVP` (R182, R183) and the
signature byte of `BRK`, `COP` and `WDM` (R96) 8, `TXS` (R175) 16, and `noOperand` for the instructions that
move no operand or whose operand is a target or a flag. -/
def Op.widthRule : Op → WidthRule
  | .adc | .sbc | .cmp | .and | .ora | .eor | .bit | .tsb | .trb | .inc | .dec | .lda | .sta | .stz
  | .asl | .lsr | .rol | .ror | .pha | .pla | .txa | .tya => .m
  | .cpx | .cpy | .inx | .iny | .dex | .dey | .ldx | .ldy | .stx | .sty | .phx | .phy | .plx | .ply
  | .tax | .tay | .txy | .tyx | .tsx => .x
  | .php | .plp | .phb | .plb | .phk | .rep | .sep | .xba | .mvn | .mvp | .brk | .cop | .wdm => .bits8
  | .phd | .pld | .pea | .pei | .per | .tcd | .tdc | .tcs | .tsc | .txs => .bits16
  | .bcc | .bcs | .beq | .bne | .bmi | .bpl | .bvc | .bvs | .bra | .brl | .jmp | .jml | .jsr | .jsl
  | .rts | .rtl | .rti | .clc | .cld | .cli | .clv | .sec | .sed | .sei | .xce | .wai | .stp
  | .nop => .noOperand

/-- A width rule under the widths in force. -/
def State.widthOfRule (s : State) : WidthRule → Option Width
  | .m => some s.wM
  | .x => some s.wX
  | .bits8 => some .w8
  | .bits16 => some .w16
  | .noOperand => none

/-- The introspection call (R123): the locator of instruction `i` at `K:PC` and its operand width, from
the state and its memory alone. It answers no state: it mutates nothing (notes/assumptions/17.md). -/
def introspect (i : Instr) (s : State) : Loc × Option Width :=
  let peek := { s with env := [], pc := s.pc + BitVec.ofNat 16 i.length }
  ((peek.resolve i.mode).1, s.widthOfRule (Op.widthRule i.op))

end Sys2Proof.Machine
end

