-- ==== Sys2Proof/Machine/Reset.lean ====
section
/-! DEFINITION. Reset and power-on, which the driving loop applies between steps
(70_reset_and_hazards.md R310, R311; 10_state.md R45). -/

namespace Sys2Proof.Machine

/-- The reset vector's address `00:FFFC` (R310). -/
def resetVector : Word := 0xFFFC

/-- The `P` of reset: `M`, `X`, `I` set, `D` clear, the rest as it was (R310). -/
def resetP (p : Byte) : Byte := (p ||| (maskM ||| maskX ||| maskI)) &&& ~~~maskD

/-- The registers reset sets, before the vector is read (R310). -/
def State.resetRegisters (s : State) : State :=
  { s with
    e := true
    p := resetP s.p
    x := word 0x00 (lo s.x)
    y := word 0x00 (lo s.y)
    sp := word 0x01 (lo s.sp)
    d := 0x0000
    dbr := 0x00
    k := 0x00
    nmiPending := false
    run := .running }

/-- `Reset()` (R310). Its two vector reads begin a new record of accesses. -/
def State.resetCore (s : State) : State :=
  let s1 := { s.resetRegisters with trace := [] }
  let r := s1.read16 (addr 0x00 resetVector) (addr 0x00 (resetVector + 1))
  { r.2 with pc := r.1 }

/-- The values power-on leaves open: `ResetDraw` (00_scope.md R7; 92_eei_decisions.md D18). -/
structure ResetDraw where
  a : Word
  xl : Byte
  yl : Byte
  sl : Byte
  c : Bool
  z : Bool
  v : Bool
  n : Bool
  deriving DecidableEq, Repr

/-- The `P` of a draw before reset: the four drawn flags (R45). -/
def ResetDraw.flags (w : ResetDraw) : Byte :=
  withMask (withMask (withMask (withMask 0x00 maskC w.c) maskZ w.z) maskV w.v) maskN w.n

/-- Power-on (R311): the drawn registers, no line asserted, `CycleCount = 0`, then reset; memory and
the script of the world outside are the platform's. -/
def State.powerOn (w : ResetDraw) (mem : List Host.Cell) (env : List BusEvent) : State :=
  State.resetCore
    { a := w.a, x := word 0x00 w.xl, y := word 0x00 w.yl, sp := word 0x01 w.sl, d := 0x0000,
      dbr := 0x00, k := 0x00, pc := 0x0000, p := w.flags, e := true, cycles := 0, irqLines := 0,
      nmiPending := false, run := .running, mem := mem, env := env, trace := [] }

/-- The draw that `State.reset` names (notes/assumptions/2.md). -/
def ResetDraw.named : ResetDraw :=
  { a := 0x0000, xl := 0x00, yl := 0x00, sl := 0xFF, c := false, z := false, v := false, n := false }

end Sys2Proof.Machine
end

