-- ==== Sys2Proof/WellFormed.lean ====
section
/-! DEFINITION. Which instructions the opcode map holds: the modes each mnemonic has (30_encoding.md
R76), and the width of its immediate under the flags `P.M` and `P.X` (R74). -/

namespace Sys2Proof

/-- The modes of `ORA`, `AND`, `EOR`, `ADC`, `LDA`, `CMP`, `SBC` (R131, R132, R133, R136, R137, R138, R161). -/
def DataMode.aluForm : DataMode → Bool
  | .immM _ | .dp _ | .dpx _ | .dpind _ | .dpindx _ | .dpindy _ | .dpindl _ | .dpindly _
  | .abs _ | .absx _ | .absy _ | .absl _ | .abslx _ | .sr _ | .sriy _ => true
  | _ => false

/-- The modes of `TSB`, `TRB` (R140, R141). -/
def DataMode.testSetForm : DataMode → Bool
  | .dp _ | .abs _ => true
  | _ => false

/-- The modes of `ASL`, `INC`, `ROL`, `DEC`, `LSR`, `ROR` (R142, R143, R191, R192, R193, R194). -/
def DataMode.rmwForm : DataMode → Bool
  | .acc | .dp _ | .dpx _ | .abs _ | .absx _ => true
  | _ => false

/-- The modes of `JSR` (R253). -/
def NearMode.jsrForm : NearMode → Bool
  | .pcabs _ | .absindx _ => true
  | _ => false

/-- The modes of `BIT` (R139). -/
def DataMode.bitForm : DataMode → Bool
  | .immM _ | .dp _ | .dpx _ | .abs _ | .absx _ => true
  | _ => false

/-- The modes of `JMP` (R251). -/
def NearMode.jmpForm : NearMode → Bool
  | .pcabs _ | .absind _ | .absindx _ => true

/-- The modes of `JML` (R252). -/
def FarMode.jmlForm : FarMode → Bool
  | .pcabsl _ | .absindl _ => true

/-- The modes of `STZ` (R167). -/
def DataMode.stzForm : DataMode → Bool
  | .dp _ | .dpx _ | .abs _ | .absx _ => true
  | _ => false

/-- The modes of `STA` (R164). -/
def DataMode.staForm : DataMode → Bool
  | .dp _ | .dpx _ | .dpind _ | .dpindx _ | .dpindy _ | .dpindl _ | .dpindly _ | .abs _
  | .absx _ | .absy _ | .absl _ | .abslx _ | .sr _ | .sriy _ => true
  | _ => false

/-- The modes of `STY` (R166). -/
def DataMode.styForm : DataMode → Bool
  | .dp _ | .dpx _ | .abs _ => true
  | _ => false

/-- The modes of `STX` (R165). -/
def DataMode.stxForm : DataMode → Bool
  | .dp _ | .dpy _ | .abs _ => true
  | _ => false

/-- The modes of `LDY` (R163). -/
def DataMode.ldyForm : DataMode → Bool
  | .immX _ | .dp _ | .dpx _ | .abs _ | .absx _ => true
  | _ => false

/-- The modes of `LDX` (R162). -/
def DataMode.ldxForm : DataMode → Bool
  | .immX _ | .dp _ | .dpy _ | .abs _ | .absy _ => true
  | _ => false

/-- The modes of `CPY`, `CPX` (R134, R135). -/
def DataMode.compareIndexForm : DataMode → Bool
  | .immX _ | .dp _ | .abs _ => true
  | _ => false

/-- The instruction has a mode its mnemonic has in the map (R76). -/
def Instr.hasForm : Instr → Bool
  | .brk _ => true
  | .ora m => m.aluForm
  | .cop _ => true
  | .tsb m => m.testSetForm
  | .asl m => m.rmwForm
  | .php => true
  | .phd => true
  | .bpl _ => true
  | .trb m => m.testSetForm
  | .clc => true
  | .inc m => m.rmwForm
  | .tcs => true
  | .jsr m => m.jsrForm
  | .and m => m.aluForm
  | .jsl _ => true
  | .bit m => m.bitForm
  | .rol m => m.rmwForm
  | .plp => true
  | .pld => true
  | .bmi _ => true
  | .sec => true
  | .dec m => m.rmwForm
  | .tsc => true
  | .rti => true
  | .eor m => m.aluForm
  | .wdm _ => true
  | .mvp _ _ => true
  | .lsr m => m.rmwForm
  | .pha => true
  | .phk => true
  | .jmp m => m.jmpForm
  | .bvc _ => true
  | .mvn _ _ => true
  | .cli => true
  | .phy => true
  | .tcd => true
  | .jml m => m.jmlForm
  | .rts => true
  | .adc m => m.aluForm
  | .per _ => true
  | .stz m => m.stzForm
  | .ror m => m.rmwForm
  | .pla => true
  | .rtl => true
  | .bvs _ => true
  | .sei => true
  | .ply => true
  | .tdc => true
  | .bra _ => true
  | .sta m => m.staForm
  | .brl _ => true
  | .sty m => m.styForm
  | .stx m => m.stxForm
  | .dey => true
  | .txa => true
  | .phb => true
  | .bcc _ => true
  | .tya => true
  | .txs => true
  | .txy => true
  | .ldy m => m.ldyForm
  | .lda m => m.aluForm
  | .ldx m => m.ldxForm
  | .tay => true
  | .tax => true
  | .plb => true
  | .bcs _ => true
  | .clv => true
  | .tsx => true
  | .tyx => true
  | .cpy m => m.compareIndexForm
  | .cmp m => m.aluForm
  | .rep _ => true
  | .iny => true
  | .dex => true
  | .wai => true
  | .bne _ => true
  | .pei _ => true
  | .cld => true
  | .phx => true
  | .stp => true
  | .cpx m => m.compareIndexForm
  | .sbc m => m.aluForm
  | .sep _ => true
  | .inx => true
  | .nop => true
  | .xba => true
  | .beq _ => true
  | .pea _ => true
  | .sed => true
  | .plx => true
  | .xce => true

/-- An immediate of one byte. -/
def Imm.isByte : Imm → Bool
  | .byte _ => true
  | .word _ => false

/-- The immediate of a mode has the width the flags give it (R74). -/
def DataMode.immFits (m8 x8 : Bool) : DataMode → Bool
  | .immM v => v.isByte == m8
  | .immX v => v.isByte == x8
  | _ => true

/-- The immediate of an instruction has the width the flags give it (R74). -/
def Instr.immFits (m8 x8 : Bool) (i : Instr) : Bool :=
  match i.mode with
  | .data m => m.immFits m8 x8
  | _ => true

/-- An instruction that the decoder can give under the flags `P.M` and `P.X`. -/
def Instr.wellFormed (m8 x8 : Bool) (i : Instr) : Bool := i.hasForm && i.immFits m8 x8

end Sys2Proof
end

