-- ==== Sys2Proof/Safety.lean ====
section
/-! DEFINITION. The terms claims are stated in: the invariants of the machine (10_state.md R37), what bus
accesses move, what a store changes, what a fetch reads, and the arithmetic of the spec written out as it stands there
(41_arithmetic_logic.md R131, R132). -/

namespace Sys2Proof.Machine

/-! ### Invariants -/

/-- What holds at every instruction boundary: the three facts of R37, memory in its canonical form, and
no bit of `irqLines` outside the sources (R39). -/
structure State.Inv (s : State) : Prop where
  /-- R37 item 1. -/
  emulationFlags : s.e = true → s.flagM = true ∧ s.flagX = true
  /-- R37 item 2. -/
  indexHigh : s.flagX = true → hi s.x = 0 ∧ hi s.y = 0
  /-- R37 item 3. -/
  emulationStack : s.e = true → hi s.sp = 0x01
  memoryCanonical : Memory.wf s.mem = true
  linesInRange : s.irqLines < 2 ^ Config.irqSources

/-! ### What bus accesses move -/

/-- What the bus answers the access `j` accesses from now with, where that access is a read of `a` and no
access before it writes there (20_memory.md R51). -/
def State.answer (s : State) (j : Nat) (a : Addr) : Byte :=
  ((s.env[j]?).bind BusEvent.answer).getD (Memory.read s.mem a.toNat)

/-- The line calls made during the first `n` coming accesses (60_exceptions.md R283). -/
def firstCalls (env : List BusEvent) (n : Nat) : List LineCall :=
  (env.take n).flatMap BusEvent.calls

/-- Memory after the writes among the accesses `l` (R51: "`Write8` records the write"). -/
def writesOf (mem : List Host.Cell) (l : List Access) : List Host.Cell :=
  l.foldl (fun m acc => match acc with
    | .read _ _ _ => m
    | .write _ a v => Memory.write m a.toNat v) mem

/-- `s` after the core made exactly the accesses `l` and did nothing else: its writes are in memory, each
access is recorded, each is one cycle (R52), and each let the world outside act once (R283). -/
def State.accessed (s : State) (l : List Access) : State :=
  { s with
    mem := writesOf s.mem l
    trace := s.trace ++ l
    cycles := s.cycles + l.length
    env := s.env.drop l.length
    nmiPending := (firstCalls s.env l.length).foldl LineCall.onNmi s.nmiPending
    irqLines := (firstCalls s.env l.length).foldl LineCall.onIrq s.irqLines }

/-- From `s` to `t` the core made exactly the accesses `l`, whatever it did to its registers. -/
structure State.Accounts (s t : State) (l : List Access) : Prop where
  memory : t.mem = (s.accessed l).mem
  recorded : t.trace = (s.accessed l).trace
  counted : t.cycles = (s.accessed l).cycles
  script : t.env = (s.accessed l).env
  nmi : t.nmiPending = (s.accessed l).nmiPending
  irq : t.irqLines = (s.accessed l).irqLines

/-- An access is a read. -/
def Access.isRead : Access → Bool
  | .read _ _ _ => true
  | .write _ _ _ => false

/-- The kind an access carries (20_memory.md R53). -/
def Access.kind : Access → AccessKind
  | .read k _ _ => k
  | .write k _ _ => k

/-- The value of an instruction's operand in mode `m` and the state after it was read: the mode's resolver,
then `GetValue` (40_addressing.md R90). -/
def State.operand (s : State) (m : DataMode) (w : Width) : Word × State :=
  (s.resolveData m).2.getValue (s.resolveData m).1 w

/-- The accesses that read the pointer of mode `m`, if it has one. -/
def State.pointerReads (s : State) (m : DataMode) : List Access :=
  (s.resolveData m).2.trace.drop s.trace.length

/-- The accesses that read the pointer and then the operand of mode `m`. -/
def State.operandReads (s : State) (m : DataMode) (w : Width) : List Access :=
  (s.operand m w).2.trace.drop s.trace.length

/-- `s` after the pointer of mode `m` was read: every register and every byte of memory is as before. -/
def State.pointerRead (s : State) (m : DataMode) : State :=
  { s.accessed (s.pointerReads m) with mem := s.mem }

/-- `s` after the operand of mode `m` was read: every register and every byte of memory is as before. -/
def State.operandRead (s : State) (m : DataMode) (w : Width) : State :=
  { s.accessed (s.operandReads m w) with mem := s.mem }

/-! ### What a store changes -/

/-- The addresses a store of width `w` touches (00_scope.md R11). -/
def storedAt (w : Width) (a0 a1 : Addr) : List Addr :=
  match w with
  | .w8 => [a0]
  | .w16 => [a0, a1]

/-- The writes of a store: low byte, then high byte (20_memory.md R58). -/
def storeOrder (w : Width) (a0 a1 : Addr) (v : Word) : List Access :=
  match w with
  | .w8 => [.write .data a0 (lo v)]
  | .w16 => [.write .data a0 (lo v), .write .data a1 (hi v)]

/-- The writes of a read-modify-write instruction or of a push: high byte, then low byte (R58). -/
def highFirst (w : Width) (a0 a1 : Addr) (v : Word) : List Access :=
  match w with
  | .w8 => [.write .data a0 (lo v)]
  | .w16 => [.write .data a1 (hi v), .write .data a0 (lo v)]

/-- Every byte of memory but those at `l` reads in `t` as in `s`. -/
def State.SameOutside (s t : State) (l : List Addr) : Prop :=
  ∀ n : Nat, n ∉ l.map BitVec.toNat → Memory.read t.mem n = Memory.read s.mem n

/-- `t` is `s` after the accesses `l`, which store the value `v` of width `w` at `a0` and `a1`
(little-endian, R54): every other byte of memory and every register is as before. -/
structure State.Stores (s t : State) (w : Width) (a0 a1 : Addr) (v : Word) (l : List Access) :
    Prop where
  whole : t = s.accessed l
  low : Memory.read t.mem a0.toNat = lo v
  high : w = .w16 → Memory.read t.mem a1.toNat = hi v
  rest : s.SameOutside t (storedAt w a0 a1)

/-- The stack pointer `n` bytes down (44_stack.md R200): in page 1 in emulation mode. -/
def State.down (s : State) (n : Word) : Word :=
  if s.e then word 0x01 (lo (s.sp - n)) else s.sp - n

/-- The stack pointer `n` bytes up (R201): in page 1 in emulation mode. -/
def State.up (s : State) (n : Word) : Word :=
  if s.e then word 0x01 (lo (s.sp + n)) else s.sp + n

/-- `t` is `s` with the value `v` of width `w` pushed (R200, R202): high byte first, so that the word lies
little-endian with its low byte at the lower stack address. -/
def State.Pushes (s t : State) (w : Width) (v : Word) : Prop :=
  match w with
  | .w8 => State.Stores { s with sp := s.down 1 } t .w8 (addr 0x00 s.sp) (addr 0x00 s.sp) v
      (highFirst .w8 (addr 0x00 s.sp) (addr 0x00 s.sp) v)
  | .w16 => State.Stores { s with sp := s.down 2 } t .w16 (addr 0x00 (s.down 1)) (addr 0x00 s.sp) v
      (highFirst .w16 (addr 0x00 (s.down 1)) (addr 0x00 s.sp) v)

/-- The byte `n` pulls read, if it is the `n`-th: at `S + n` in bank 0 (R201). -/
def State.stackByte (s : State) (n : Nat) : Byte :=
  s.answer (n - 1) (addr 0x00 (s.up (BitVec.ofNat 16 n)))

/-- The reads of `n` pulls, in order (R201, R203). -/
def State.pullReads (s : State) (n : Nat) : List Access :=
  (List.range n).map fun j =>
    .read .data (addr 0x00 (s.up (BitVec.ofNat 16 (j + 1)))) (s.stackByte (j + 1))

/-- `s` after `n` pulls: `S` is `n` up, and the pulled bytes were read (R201). -/
def State.pulled (s : State) (n : Nat) : State :=
  { s.accessed (s.pullReads n) with sp := s.up (BitVec.ofNat 16 n) }

/-- How many bytes a width pulls or pushes. -/
def bytesOf (w : Width) : Nat :=
  match w with
  | .w8 => 1
  | .w16 => 2

/-- The value that a pull of width `w` gives, low byte first (R203). -/
def State.pulledValue (s : State) (w : Width) : Word :=
  match w with
  | .w8 => zext (s.stackByte 1)
  | .w16 => word (s.stackByte 2) (s.stackByte 1)

/-! ### Fetching -/

/-- The byte the bus answers the fetch of byte `j` of the instruction at `K:PC` with (10_state.md R27: the
offset wraps inside bank `K`). -/
def State.codeByte (s : State) (j : Nat) : Byte := s.answer j (addr s.k (s.pc + BitVec.ofNat 16 j))

/-- The four bytes the bus answers fetches from `K:PC` on with. -/
def State.codeBytes (s : State) : List Byte := [s.codeByte 0, s.codeByte 1, s.codeByte 2, s.codeByte 3]

/-- The fetches of the first `n` bytes at `K:PC` (20_memory.md R53; 30_encoding.md R71). -/
def State.fetches (s : State) (n : Nat) : List Access :=
  (List.range n).map fun j =>
    .read (if j = 0 then .opcodeFetch else .operand) (addr s.k (s.pc + BitVec.ofNat 16 j))
      (s.codeByte j)

/-- `s` after the `n` bytes of an instruction at `K:PC` were fetched: `PC` is past them (R27, R71). -/
def State.fetched (s : State) (n : Nat) : State :=
  { s.accessed (s.fetches n) with pc := s.pc + BitVec.ofNat 16 n }

/-! ### Flags and registers after an instruction -/

/-- 8 or 16. -/
def bitsOf (w : Width) : Nat :=
  match w with
  | .w8 => 8
  | .w16 => 16

/-- `P` after `SetNZ_w(v)` (00_scope.md R13): `Z` tells whether the low `w` bits of `v` are all zero, `N` is bit
`w-1`. -/
def withNZ (p : Byte) (w : Width) (v : Word) : Byte :=
  withMask (withMask p maskZ (decide (v.toNat % 2 ^ bitsOf w = 0))) maskN (v.getLsbD (bitsOf w - 1))

/-- `A` after `SetA(w, v)` (R30). -/
def accWith (w : Width) (a v : Word) : Word :=
  match w with
  | .w8 => word (hi a) (lo v)
  | .w16 => v

/-- The signed value of `v[w-1:0]`. -/
def signedOf (w : Width) (v : Word) : Int :=
  match w with
  | .w8 => (lo v).toInt
  | .w16 => v.toInt

/-! ### The arithmetic of R131 and R132, line by line -/

/-- What the pseudocode of R131 and R132 ends with: `res`, `v` and `cout`. -/
structure SpecSum where
  res : Nat
  v : Bool
  cout : Bool
  deriving DecidableEq, Repr

/-- `(~(a ^ m) & (a ^ r))[i]` (R131). -/
def specOverflow (a m r i : Nat) : Bool := !(a ^^^ m).testBit i && (a ^^^ r).testBit i

/-- R131, `P.D = 0`. -/
def specAdcBinary (bits a m c : Nat) : SpecSum :=
  let r := a + m + c
  { res := r % 2 ^ bits, v := specOverflow a m r (bits - 1), cout := decide (r ≥ 2 ^ bits) }

/-- R131, `P.D = 1`, `w = 8`. -/
def specAdcDecimal8 (a m c : Nat) : SpecSum :=
  let r := (a &&& 0x0F) + (m &&& 0x0F) + c
  let r := if r > 0x09 then r + 0x06 else r
  let k := if r > 0x0F then 0x10 else 0
  let r := (a &&& 0xF0) + (m &&& 0xF0) + k + (r &&& 0x0F)
  let v := specOverflow a m r 7
  let r := if r > 0x9F then r + 0x60 else r
  { res := r % 2 ^ 8, v := v, cout := decide (r > 0xFF) }

/-- R131, `P.D = 1`, `w = 16`. -/
def specAdcDecimal16 (a m c : Nat) : SpecSum :=
  let r := (a &&& 0x000F) + (m &&& 0x000F) + c
  let r := if r > 0x0009 then r + 0x0006 else r
  let k := if r > 0x000F then 0x0010 else 0
  let r := (a &&& 0x00F0) + (m &&& 0x00F0) + k + (r &&& 0x000F)
  let r := if r > 0x009F then r + 0x0060 else r
  let k := if r > 0x00FF then 0x0100 else 0
  let r := (a &&& 0x0F00) + (m &&& 0x0F00) + k + (r &&& 0x00FF)
  let r := if r > 0x09FF then r + 0x0600 else r
  let k := if r > 0x0FFF then 0x1000 else 0
  let r := (a &&& 0xF000) + (m &&& 0xF000) + k + (r &&& 0x0FFF)
  let v := specOverflow a m r 15
  let r := if r > 0x9FFF then r + 0x6000 else r
  { res := r % 2 ^ 16, v := v, cout := decide (r > 0xFFFF) }

/-- `n & (2^j - 1)` of an integer that may be negative (00_scope.md R9). -/
def intLow (n : Int) (size : Nat) : Nat := (n % size).toNat

/-- R132, `P.D = 1`, `w = 8`; `m` is the one's complement. -/
def specSbcDecimal8 (a m c : Nat) : SpecSum :=
  let r : Int := (((a &&& 0x0F) + (m &&& 0x0F) + c : Nat) : Int)
  let r : Int := if r ≤ 0x0F then r - 0x06 else r
  let k : Nat := if r > 0x0F then 0x10 else 0
  let r : Nat := (a &&& 0xF0) + (m &&& 0xF0) + k + intLow r 0x10
  let v := specOverflow a m r 7
  let r : Int := if r ≤ 0xFF then (r : Int) - 0x60 else r
  { res := intLow r (2 ^ 8), v := v, cout := decide (r > 0xFF) }

/-- R132, `P.D = 1`, `w = 16`; `m` is the one's complement. -/
def specSbcDecimal16 (a m c : Nat) : SpecSum :=
  let r : Int := (((a &&& 0x000F) + (m &&& 0x000F) + c : Nat) : Int)
  let r : Int := if r ≤ 0x000F then r - 0x0006 else r
  let k : Nat := if r > 0x000F then 0x0010 else 0
  let r : Int := (((a &&& 0x00F0) + (m &&& 0x00F0) + k + intLow r 0x10 : Nat) : Int)
  let r : Int := if r ≤ 0x00FF then r - 0x0060 else r
  let k : Nat := if r > 0x00FF then 0x0100 else 0
  let r : Int := (((a &&& 0x0F00) + (m &&& 0x0F00) + k + intLow r 0x100 : Nat) : Int)
  let r : Int := if r ≤ 0x0FFF then r - 0x0600 else r
  let k : Nat := if r > 0x0FFF then 0x1000 else 0
  let r : Nat := (a &&& 0xF000) + (m &&& 0xF000) + k + intLow r 0x1000
  let v := specOverflow a m r 15
  let r : Int := if r ≤ 0xFFFF then (r : Int) - 0x6000 else r
  { res := intLow r (2 ^ 16), v := v, cout := decide (r > 0xFFFF) }

/-- The whole of R131 on the values of `A[w-1:0]`, of the operand and of the carry. -/
def specAdc (d : Bool) (w : Width) (a m c : Nat) : SpecSum :=
  if d then
    match w with
    | .w8 => specAdcDecimal8 a m c
    | .w16 => specAdcDecimal16 a m c
  else specAdcBinary (bitsOf w) a m c

/-- The whole of R132: the operand is complemented first. -/
def specSbc (d : Bool) (w : Width) (a m c : Nat) : SpecSum :=
  let n := m ^^^ (2 ^ bitsOf w - 1)
  if d then
    match w with
    | .w8 => specSbcDecimal8 a n c
    | .w16 => specSbcDecimal16 a n c
  else specAdcBinary (bitsOf w) a n c

/-! ### Binary-coded decimal -/

/-- Digit `j` of a value. -/
def bcdDigit (v j : Nat) : Nat := v / 16 ^ j % 16

/-- Every digit of a value of `bits` bits is 9 or less. -/
def isBcd (bits v : Nat) : Prop := ∀ j, 4 * j < bits → bcdDigit v j ≤ 9

/-- The number a value of `bits` bits writes in decimal digits. -/
def bcdValue (bits v : Nat) : Nat :=
  ((List.range (bits / 4)).map fun j => bcdDigit v j * 10 ^ j).sum

end Sys2Proof.Machine
end

