-- ==== Sys2Proof/Certificates/Slice0/Obligations.lean ====
section
/-! DEFINITION. The statements for the provers, in the order of the spec's files. The first part holds the
terms only they use: the opcode map and the operand formats written out from 30_encoding.md, and two
shapes of an instruction's effect. -/

namespace Sys2Proof.Machine

/-- Row 0x of the table of R76. -/
def mapRow0 (o : OperandBytes) : List (Op × Mode) :=
  let a : Word := o.b2 ++ o.b1
  let al : Addr := o.b3 ++ (o.b2 ++ o.b1)
  [(.brk, .data (.sig o.b1)), (.ora, .data (.dpindx o.b1)), (.cop, .data (.sig o.b1)),
    (.ora, .data (.sr o.b1)), (.tsb, .data (.dp o.b1)), (.ora, .data (.dp o.b1)),
    (.asl, .data (.dp o.b1)), (.ora, .data (.dpindl o.b1)), (.php, .stk),
    (.ora, .data (.immM (if o.m8 then .byte o.b1 else .word a))), (.asl, .data .acc), (.phd, .stk),
    (.tsb, .data (.abs a)), (.ora, .data (.abs a)), (.asl, .data (.abs a)), (.ora, .data (.absl al))]

/-- Row 1x of the table of R76. -/
def mapRow1 (o : OperandBytes) : List (Op × Mode) :=
  let a : Word := o.b2 ++ o.b1
  let al : Addr := o.b3 ++ (o.b2 ++ o.b1)
  [(.bpl, .rel8 o.b1), (.ora, .data (.dpindy o.b1)), (.ora, .data (.dpind o.b1)),
    (.ora, .data (.sriy o.b1)), (.trb, .data (.dp o.b1)), (.ora, .data (.dpx o.b1)),
    (.asl, .data (.dpx o.b1)), (.ora, .data (.dpindly o.b1)), (.clc, .imp), (.ora, .data (.absy a)),
    (.inc, .data .acc), (.tcs, .imp), (.trb, .data (.abs a)), (.ora, .data (.absx a)),
    (.asl, .data (.absx a)), (.ora, .data (.abslx al))]

/-- Row 2x of the table of R76. -/
def mapRow2 (o : OperandBytes) : List (Op × Mode) :=
  let a : Word := o.b2 ++ o.b1
  let al : Addr := o.b3 ++ (o.b2 ++ o.b1)
  [(.jsr, .near (.pcabs a)), (.and, .data (.dpindx o.b1)), (.jsl, .far (.pcabsl al)),
    (.and, .data (.sr o.b1)), (.bit, .data (.dp o.b1)), (.and, .data (.dp o.b1)),
    (.rol, .data (.dp o.b1)), (.and, .data (.dpindl o.b1)), (.plp, .stk),
    (.and, .data (.immM (if o.m8 then .byte o.b1 else .word a))), (.rol, .data .acc), (.pld, .stk),
    (.bit, .data (.abs a)), (.and, .data (.abs a)), (.rol, .data (.abs a)), (.and, .data (.absl al))]

/-- Row 3x of the table of R76. -/
def mapRow3 (o : OperandBytes) : List (Op × Mode) :=
  let a : Word := o.b2 ++ o.b1
  let al : Addr := o.b3 ++ (o.b2 ++ o.b1)
  [(.bmi, .rel8 o.b1), (.and, .data (.dpindy o.b1)), (.and, .data (.dpind o.b1)),
    (.and, .data (.sriy o.b1)), (.bit, .data (.dpx o.b1)), (.and, .data (.dpx o.b1)),
    (.rol, .data (.dpx o.b1)), (.and, .data (.dpindly o.b1)), (.sec, .imp), (.and, .data (.absy a)),
    (.dec, .data .acc), (.tsc, .imp), (.bit, .data (.absx a)), (.and, .data (.absx a)),
    (.rol, .data (.absx a)), (.and, .data (.abslx al))]

/-- Row 4x of the table of R76. -/
def mapRow4 (o : OperandBytes) : List (Op × Mode) :=
  let a : Word := o.b2 ++ o.b1
  let al : Addr := o.b3 ++ (o.b2 ++ o.b1)
  [(.rti, .stk), (.eor, .data (.dpindx o.b1)), (.wdm, .data (.sig o.b1)), (.eor, .data (.sr o.b1)),
    (.mvp, .blk o.b1 o.b2), (.eor, .data (.dp o.b1)), (.lsr, .data (.dp o.b1)),
    (.eor, .data (.dpindl o.b1)), (.pha, .stk),
    (.eor, .data (.immM (if o.m8 then .byte o.b1 else .word a))), (.lsr, .data .acc), (.phk, .stk),
    (.jmp, .near (.pcabs a)), (.eor, .data (.abs a)), (.lsr, .data (.abs a)), (.eor, .data (.absl al))]

/-- Row 5x of the table of R76. -/
def mapRow5 (o : OperandBytes) : List (Op × Mode) :=
  let a : Word := o.b2 ++ o.b1
  let al : Addr := o.b3 ++ (o.b2 ++ o.b1)
  [(.bvc, .rel8 o.b1), (.eor, .data (.dpindy o.b1)), (.eor, .data (.dpind o.b1)),
    (.eor, .data (.sriy o.b1)), (.mvn, .blk o.b1 o.b2), (.eor, .data (.dpx o.b1)),
    (.lsr, .data (.dpx o.b1)), (.eor, .data (.dpindly o.b1)), (.cli, .imp), (.eor, .data (.absy a)),
    (.phy, .stk), (.tcd, .imp), (.jml, .far (.pcabsl al)), (.eor, .data (.absx a)),
    (.lsr, .data (.absx a)), (.eor, .data (.abslx al))]

/-- Row 6x of the table of R76. -/
def mapRow6 (o : OperandBytes) : List (Op × Mode) :=
  let a : Word := o.b2 ++ o.b1
  let al : Addr := o.b3 ++ (o.b2 ++ o.b1)
  [(.rts, .stk), (.adc, .data (.dpindx o.b1)), (.per, .rel16 a), (.adc, .data (.sr o.b1)),
    (.stz, .data (.dp o.b1)), (.adc, .data (.dp o.b1)), (.ror, .data (.dp o.b1)),
    (.adc, .data (.dpindl o.b1)), (.pla, .stk),
    (.adc, .data (.immM (if o.m8 then .byte o.b1 else .word a))), (.ror, .data .acc), (.rtl, .stk),
    (.jmp, .near (.absind a)), (.adc, .data (.abs a)), (.ror, .data (.abs a)), (.adc, .data (.absl al))]

/-- Row 7x of the table of R76. -/
def mapRow7 (o : OperandBytes) : List (Op × Mode) :=
  let a : Word := o.b2 ++ o.b1
  let al : Addr := o.b3 ++ (o.b2 ++ o.b1)
  [(.bvs, .rel8 o.b1), (.adc, .data (.dpindy o.b1)), (.adc, .data (.dpind o.b1)),
    (.adc, .data (.sriy o.b1)), (.stz, .data (.dpx o.b1)), (.adc, .data (.dpx o.b1)),
    (.ror, .data (.dpx o.b1)), (.adc, .data (.dpindly o.b1)), (.sei, .imp), (.adc, .data (.absy a)),
    (.ply, .stk), (.tdc, .imp), (.jmp, .near (.absindx a)), (.adc, .data (.absx a)),
    (.ror, .data (.absx a)), (.adc, .data (.abslx al))]

/-- Row 8x of the table of R76. -/
def mapRow8 (o : OperandBytes) : List (Op × Mode) :=
  let a : Word := o.b2 ++ o.b1
  let al : Addr := o.b3 ++ (o.b2 ++ o.b1)
  [(.bra, .rel8 o.b1), (.sta, .data (.dpindx o.b1)), (.brl, .rel16 a), (.sta, .data (.sr o.b1)),
    (.sty, .data (.dp o.b1)), (.sta, .data (.dp o.b1)), (.stx, .data (.dp o.b1)),
    (.sta, .data (.dpindl o.b1)), (.dey, .imp),
    (.bit, .data (.immM (if o.m8 then .byte o.b1 else .word a))), (.txa, .imp), (.phb, .stk),
    (.sty, .data (.abs a)), (.sta, .data (.abs a)), (.stx, .data (.abs a)), (.sta, .data (.absl al))]

/-- Row 9x of the table of R76. -/
def mapRow9 (o : OperandBytes) : List (Op × Mode) :=
  let a : Word := o.b2 ++ o.b1
  let al : Addr := o.b3 ++ (o.b2 ++ o.b1)
  [(.bcc, .rel8 o.b1), (.sta, .data (.dpindy o.b1)), (.sta, .data (.dpind o.b1)),
    (.sta, .data (.sriy o.b1)), (.sty, .data (.dpx o.b1)), (.sta, .data (.dpx o.b1)),
    (.stx, .data (.dpy o.b1)), (.sta, .data (.dpindly o.b1)), (.tya, .imp), (.sta, .data (.absy a)),
    (.txs, .imp), (.txy, .imp), (.stz, .data (.abs a)), (.sta, .data (.absx a)),
    (.stz, .data (.absx a)), (.sta, .data (.abslx al))]

/-- Row Ax of the table of R76. -/
def mapRowA (o : OperandBytes) : List (Op × Mode) :=
  let a : Word := o.b2 ++ o.b1
  let al : Addr := o.b3 ++ (o.b2 ++ o.b1)
  [(.ldy, .data (.immX (if o.x8 then .byte o.b1 else .word a))), (.lda, .data (.dpindx o.b1)),
    (.ldx, .data (.immX (if o.x8 then .byte o.b1 else .word a))), (.lda, .data (.sr o.b1)),
    (.ldy, .data (.dp o.b1)), (.lda, .data (.dp o.b1)), (.ldx, .data (.dp o.b1)),
    (.lda, .data (.dpindl o.b1)), (.tay, .imp),
    (.lda, .data (.immM (if o.m8 then .byte o.b1 else .word a))), (.tax, .imp), (.plb, .stk),
    (.ldy, .data (.abs a)), (.lda, .data (.abs a)), (.ldx, .data (.abs a)), (.lda, .data (.absl al))]

/-- Row Bx of the table of R76. -/
def mapRowB (o : OperandBytes) : List (Op × Mode) :=
  let a : Word := o.b2 ++ o.b1
  let al : Addr := o.b3 ++ (o.b2 ++ o.b1)
  [(.bcs, .rel8 o.b1), (.lda, .data (.dpindy o.b1)), (.lda, .data (.dpind o.b1)),
    (.lda, .data (.sriy o.b1)), (.ldy, .data (.dpx o.b1)), (.lda, .data (.dpx o.b1)),
    (.ldx, .data (.dpy o.b1)), (.lda, .data (.dpindly o.b1)), (.clv, .imp), (.lda, .data (.absy a)),
    (.tsx, .imp), (.tyx, .imp), (.ldy, .data (.absx a)), (.lda, .data (.absx a)),
    (.ldx, .data (.absy a)), (.lda, .data (.abslx al))]

/-- Row Cx of the table of R76. -/
def mapRowC (o : OperandBytes) : List (Op × Mode) :=
  let a : Word := o.b2 ++ o.b1
  let al : Addr := o.b3 ++ (o.b2 ++ o.b1)
  [(.cpy, .data (.immX (if o.x8 then .byte o.b1 else .word a))), (.cmp, .data (.dpindx o.b1)),
    (.rep, .data (.imm8 o.b1)), (.cmp, .data (.sr o.b1)), (.cpy, .data (.dp o.b1)),
    (.cmp, .data (.dp o.b1)), (.dec, .data (.dp o.b1)), (.cmp, .data (.dpindl o.b1)), (.iny, .imp),
    (.cmp, .data (.immM (if o.m8 then .byte o.b1 else .word a))), (.dex, .imp), (.wai, .imp),
    (.cpy, .data (.abs a)), (.cmp, .data (.abs a)), (.dec, .data (.abs a)), (.cmp, .data (.absl al))]

/-- Row Dx of the table of R76. -/
def mapRowD (o : OperandBytes) : List (Op × Mode) :=
  let a : Word := o.b2 ++ o.b1
  let al : Addr := o.b3 ++ (o.b2 ++ o.b1)
  [(.bne, .rel8 o.b1), (.cmp, .data (.dpindy o.b1)), (.cmp, .data (.dpind o.b1)),
    (.cmp, .data (.sriy o.b1)), (.pei, .data (.pei o.b1)), (.cmp, .data (.dpx o.b1)),
    (.dec, .data (.dpx o.b1)), (.cmp, .data (.dpindly o.b1)), (.cld, .imp), (.cmp, .data (.absy a)),
    (.phx, .stk), (.stp, .imp), (.jml, .far (.absindl a)), (.cmp, .data (.absx a)),
    (.dec, .data (.absx a)), (.cmp, .data (.abslx al))]

/-- Row Ex of the table of R76. -/
def mapRowE (o : OperandBytes) : List (Op × Mode) :=
  let a : Word := o.b2 ++ o.b1
  let al : Addr := o.b3 ++ (o.b2 ++ o.b1)
  [(.cpx, .data (.immX (if o.x8 then .byte o.b1 else .word a))), (.sbc, .data (.dpindx o.b1)),
    (.sep, .data (.imm8 o.b1)), (.sbc, .data (.sr o.b1)), (.cpx, .data (.dp o.b1)),
    (.sbc, .data (.dp o.b1)), (.inc, .data (.dp o.b1)), (.sbc, .data (.dpindl o.b1)), (.inx, .imp),
    (.sbc, .data (.immM (if o.m8 then .byte o.b1 else .word a))), (.nop, .imp), (.xba, .imp),
    (.cpx, .data (.abs a)), (.sbc, .data (.abs a)), (.inc, .data (.abs a)), (.sbc, .data (.absl al))]

/-- Row Fx of the table of R76. -/
def mapRowF (o : OperandBytes) : List (Op × Mode) :=
  let a : Word := o.b2 ++ o.b1
  let al : Addr := o.b3 ++ (o.b2 ++ o.b1)
  [(.beq, .rel8 o.b1), (.sbc, .data (.dpindy o.b1)), (.sbc, .data (.dpind o.b1)),
    (.sbc, .data (.sriy o.b1)), (.pea, .data (.pea a)), (.sbc, .data (.dpx o.b1)),
    (.inc, .data (.dpx o.b1)), (.sbc, .data (.dpindly o.b1)), (.sed, .imp), (.sbc, .data (.absy a)),
    (.plx, .stk), (.xce, .imp), (.jsr, .near (.absindx a)), (.sbc, .data (.absx a)),
    (.inc, .data (.absx a)), (.sbc, .data (.abslx al))]

/-- The table of R76, row after row: opcode `hi*16 + lo` stands at that place. -/
def opcodeMap (o : OperandBytes) : List (Op × Mode) :=
  mapRow0 o ++ mapRow1 o ++ mapRow2 o ++ mapRow3 o ++
    mapRow4 o ++ mapRow5 o ++ mapRow6 o ++ mapRow7 o ++
    mapRow8 o ++ mapRow9 o ++ mapRowA o ++ mapRowB o ++
    mapRowC o ++ mapRowD o ++ mapRowE o ++ mapRowF o
/-- The operand bytes of a mode with an operand locator, as the rows of R73 give them. -/
def dataFields : DataMode → List Byte
  | .acc => []
  | .immM (.byte c) | .immX (.byte c) => [c]
  | .immM (.word c) | .immX (.word c) => [c.extractLsb' 0 8, c.extractLsb' 8 8]
  | .imm8 c | .sig c => [c]
  | .dp d | .dpx d | .dpy d | .dpind d | .dpindx d | .dpindy d | .dpindl d | .dpindly d | .sr d
  | .sriy d | .pei d => [d]
  | .abs a | .absx a | .absy a | .pea a => [a.extractLsb' 0 8, a.extractLsb' 8 8]
  | .absl al | .abslx al => [al.extractLsb' 0 8, al.extractLsb' 8 8, al.extractLsb' 16 8]

/-- The operand bytes of a mode, as the rows of R73 give them. -/
def fieldsOf : Mode → List Byte
  | .data m => dataFields m
  | .near (.pcabs a) | .near (.absind a) | .near (.absindx a) | .far (.absindl a) | .rel16 a =>
    [a.extractLsb' 0 8, a.extractLsb' 8 8]
  | .far (.pcabsl al) => [al.extractLsb' 0 8, al.extractLsb' 8 8, al.extractLsb' 16 8]
  | .rel8 r => [r]
  | .blk dst src => [dst, src]
  | .imp | .stk => []

/-- The `immM` opcodes (R74). -/
def immMOpcodes : List Byte := [0x09, 0x29, 0x49, 0x69, 0x89, 0xA9, 0xC9, 0xE9]

/-- The `immX` opcodes (R74). -/
def immXOpcodes : List Byte := [0xA0, 0xA2, 0xC0, 0xE0]

/-- The fifteen modes of the accumulator operations, in the order their rules list the opcodes. -/
def accumulatorModes (o : OperandBytes) : List DataMode :=
  let a : Word := o.b2 ++ o.b1
  [.dpindx o.b1, .sr o.b1, .dp o.b1, .dpindl o.b1,
    .immM (if o.m8 then .byte o.b1 else .word a), .abs a, .absl (o.b3 ++ (o.b2 ++ o.b1)),
    .dpindy o.b1, .dpind o.b1, .sriy o.b1, .dpx o.b1, .dpindly o.b1, .absy a, .absx a,
    .abslx (o.b3 ++ (o.b2 ++ o.b1))]

/-- The fifteen opcodes of an accumulator operation, in that order, whose first one is `base + 1`. -/
def accumulatorOpcodes (base : Byte) : List Byte :=
  [0x01, 0x03, 0x05, 0x07, 0x09, 0x0D, 0x0F, 0x11, 0x12, 0x13, 0x15, 0x17, 0x19, 0x1D, 0x1F].map
    (base + ·)

/-- The opcodes `l` are, in order, the instructions `f o`. -/
def OpcodesAre (l : List Byte) (f : OperandBytes → List Instr) : Prop :=
  ∀ o : OperandBytes, l.map (fun op => instrOf op o) = f o

/-- The operand bytes of the instruction at `K:PC`: the bytes its fetches read, 0 past its last one. -/
def fetchedOperand (s : State) : OperandBytes :=
  let n := operandCount s.flagM s.flagX (s.codeByte 0)
  let b := fun j => if j ≤ n then s.codeByte j else 0
  { m8 := s.flagM, x8 := s.flagX, b1 := b 1, b2 := b 2, b3 := b 3 }

/-- The instruction `i` answers the next state `f s` from every state that meets the invariants. -/
def Completes (i : Instr) (f : State → State) : Prop :=
  ∀ s : State, s.Inv → exec i s = .next (f s)

/-- A read-modify-write instruction (R142, R143, R190): from the operand `v` at width `wM` it computes
`result` (of the width in bits, of `v` and of the carry), sets `N` and `Z` from it and, where `out` names a
bit of `v`, `C`; it writes the result back to `A`, or to memory with the high byte first. -/
def ReadsModifiesWrites (mk : DataMode → Instr) (result : Nat → Nat → Nat → Nat)
    (out : Option (Nat → Nat)) : Prop :=
  ∀ s : State, s.Inv →
    let flags := fun v : Word =>
      let r := BitVec.ofNat 16 (result (bitsOf s.wM) v.toNat s.flagC.toNat)
      match out with
      | none => withNZ s.p s.wM r
      | some bit => withMask (withNZ s.p s.wM r) maskC (v.getLsbD (bit (bitsOf s.wM)))
    (let v := trunc s.wM s.a
     let r := BitVec.ofNat 16 (result (bitsOf s.wM) v.toNat s.flagC.toNat)
     exec (mk .acc) s = .next { s with a := accWith s.wM s.a r, p := flags v }) ∧
    ∀ (m : DataMode) (a0 a1 : Addr), (s.resolveData m).1 = .mem a0 a1 →
      let v := (s.operand m s.wM).1
      let r := BitVec.ofNat 16 (result (bitsOf s.wM) v.toNat s.flagC.toNat)
      ∃ t, exec (mk m) s = .next t ∧
        State.Stores { s.operandRead m s.wM with p := flags v } t s.wM a0 a1 r
          (highFirst s.wM a0 a1 r)

end Sys2Proof.Machine

open Sys2Proof Sys2Proof.Machine

/-! ### Encoding (30_encoding.md) -/

/-- Decoding the encoding of any well-formed instruction gives it back, whatever bytes follow. -/
def Obligations.DecodeInvertsEncode : Prop :=
  ∀ (m8 x8 : Bool) (i : Instr), i.wellFormed m8 x8 = true →
    ∃ bs, encode i = some bs ∧ ∀ rest, decode m8 x8 (bs ++ rest) = .ok (i, rest)

/-- Every byte string the decoder accepts is the encoding of the well-formed instruction it answers, and
then the rest. -/
def Obligations.EncodeInvertsDecode : Prop :=
  ∀ (m8 x8 : Bool) (bs : List Byte) (i : Instr) (rest : List Byte),
    decode m8 x8 bs = .ok (i, rest) →
      i.wellFormed m8 x8 = true ∧ ∃ e, encode i = some e ∧ bs = e ++ rest

/-- R76, with the operand fields of R73: the opcode map as the spec's table has it. -/
def Obligations.OpcodeMapIsTheSpecsTable : Prop :=
  ∀ (op : Byte) (o : OperandBytes),
    some ((instrOf op o).op, (instrOf op o).mode) = (opcodeMap o)[op.toNat]?

/-- R70, R73: an accepted instruction is one opcode byte and then the fields of its mode, in the order of
the table of R73; no instruction is longer than four bytes. -/
def Obligations.OperandFieldsInOrder : Prop :=
  ∀ (m8 x8 : Bool) (bs : List Byte) (i : Instr) (rest : List Byte),
    decode m8 x8 bs = .ok (i, rest) →
      (∃ op, bs = op :: fieldsOf i.mode ++ rest) ∧ i.length = 1 + (fieldsOf i.mode).length ∧
        i.length ≤ 4

/-- R74: the immediates of the `immM` opcodes are sized by `P.M` and those of the `immX` opcodes by `P.X`, as
they stand when the instruction is fetched; those of `REP` and `SEP` are one byte; no other opcode's length
depends on a flag. -/
def Obligations.ImmediateLengthFollowsFlags : Prop :=
  (∀ (m8 x8 : Bool) (op : Byte),
    (op ∈ immMOpcodes → operandCount m8 x8 op = if m8 then 1 else 2) ∧
    (op ∈ immXOpcodes → operandCount m8 x8 op = if x8 then 1 else 2) ∧
    (op ∈ [(0xC2 : Byte), 0xE2] → operandCount m8 x8 op = 1) ∧
    (op ∉ immMOpcodes ++ immXOpcodes → operandCount m8 x8 op = operandCount true true op)) ∧
  ∀ s : State,
    s.fetchInstr.1.length = 1 + operandCount s.flagM s.flagX (s.codeByte 0) ∧
    s.fetchInstr.2.pc = s.pc + BitVec.ofNat 16 s.fetchInstr.1.length

/-- R73, R74, R76: some words written out from the spec's encodings decode to what they stand for. -/
def Obligations.SpecWordsDecode : Prop :=
  decode true true [0x69, 0x3F] = .ok (.adc (.immM (.byte 0x3F)), []) ∧
  decode false true [0xA9, 0x34, 0x12] = .ok (.lda (.immM (.word 0x1234)), []) ∧
  decode true false [0xA2, 0x00, 0x80] = .ok (.ldx (.immX (.word 0x8000)), []) ∧
  decode true true [0x8D, 0xFF, 0xFF] = .ok (.sta (.abs 0xFFFF), []) ∧
  decode true true [0x54, 0x7F, 0x7E] = .ok (.mvn 0x7F 0x7E, []) ∧
  decode true true [0x66, 0x10] = .ok (.ror (.dp 0x10), []) ∧
  decode true true [0xD4, 0x10] = .ok (.pei 0x10, []) ∧
  decode false false [0xC2, 0x30] = .ok (.rep 0x30, []) ∧
  decode true true [0x22, 0x00, 0x80, 0x01] = .ok (.jsl 0x018000, []) ∧
  decode true true [0x02, 0x01] = .ok (.cop 0x01, [])

/-- R78, R280: every opcode is an instruction of the map, every instruction answers a next state, and so does
every step; there is no fault state. -/
def Obligations.EveryInstructionCompletes : Prop :=
  (∀ (op : Byte) (o : OperandBytes), (instrOf op o).hasForm = true) ∧
  (∀ (i : Instr) (s : State), ∃ t, exec i s = .next t) ∧
  (∀ s : State, ∃ t, step s = .next t) ∧
  ∀ _ : Fault, False
/-! ### Registers, setters and invariants (00_scope.md, 10_state.md) -/

/-- R30 to R35: the setters, field by field; what a setter does not name it leaves. R13: `SetNZ` at each width,
in a state that meets the invariants; it never sets `Z` and `N` together; `SetFlags`, `ClearFlags` and `CheckFlag`
of a mask. -/
def Obligations.SettersKeepWidths : Prop :=
  (∀ (s : State) (w : Width) (v : Word), s.Inv →
    s.setNZ w v = { s with p := withNZ s.p w v } ∧
    (s.setNZ w v).flagZ = decide (v.toNat % 2 ^ bitsOf w = 0) ∧
    (s.setNZ w v).flagN = v.getLsbD (bitsOf w - 1) ∧
    ¬ ((s.setNZ w v).flagZ = true ∧ (s.setNZ w v).flagN = true)) ∧
  (∀ (s : State) (m : Byte),
    s.setFlag m true = s.setP (s.p ||| m) ∧ s.setFlag m false = s.setP (s.p &&& ~~~m)) ∧
  (∀ s : State,
    (s.flagC = true ↔ s.p &&& 0x01 = 0x01) ∧ (s.flagZ = true ↔ s.p &&& 0x02 = 0x02) ∧
    (s.flagI = true ↔ s.p &&& 0x04 = 0x04) ∧ (s.flagD = true ↔ s.p &&& 0x08 = 0x08) ∧
    (s.flagX = true ↔ s.p &&& 0x10 = 0x10) ∧ (s.flagM = true ↔ s.p &&& 0x20 = 0x20) ∧
    (s.flagV = true ↔ s.p &&& 0x40 = 0x40) ∧ (s.flagN = true ↔ s.p &&& 0x80 = 0x80)) ∧
  ∀ (s : State) (v : Word) (b : Byte),
    s.setA .w8 v = { s with a := hi s.a ++ lo v } ∧
    s.setA .w16 v = { s with a := v } ∧
    s.setX v = { s with x := if s.flagX then 0x00#8 ++ lo v else v } ∧
    s.setY v = { s with y := if s.flagX then 0x00#8 ++ lo v else v } ∧
    s.setSP v = { s with sp := if s.e then 0x01#8 ++ lo v else v } ∧
    (let p := if s.e then b ||| 0x30 else b
     s.setP b = { s with
       p := p
       x := if p.getLsbD 4 then 0x00#8 ++ lo s.x else s.x
       y := if p.getLsbD 4 then 0x00#8 ++ lo s.y else s.y }) ∧
    s.setE false = { s with e := false } ∧
    s.setE true = { s with
      e := true
      p := s.p ||| 0x30
      x := 0x00#8 ++ lo s.x
      y := 0x00#8 ++ lo s.y
      sp := 0x01#8 ++ lo s.sp }

/-- The reset state meets the invariants of R37, its memory is canonical, and so does every state that a
reset of any machine with a canonical memory, or a power-on with any draw, leaves. -/
def Obligations.ResetMeetsTheInvariants : Prop :=
  State.reset.Inv ∧
  (∀ s : State, Memory.wf s.mem = true → s.irqLines < 2 ^ Config.irqSources → s.resetCore.Inv) ∧
  ∀ (w : ResetDraw) (mem : List Host.Cell) (env : List BusEvent), Memory.wf mem = true →
    (State.powerOn w mem env).Inv

/-- R37: every step keeps the invariants, from every state that meets them and whatever the bus and the line
drivers do during it. -/
def Obligations.StepKeepsTheInvariants : Prop :=
  ∀ s t : State, s.Inv → step s = .next t → t.Inv

/-- R310, R311, R45: reset and power-on, every field, for every draw of the registers that the spec leaves
open, and whatever the bus answers and the line drivers call during the vector reads; no step leaves
`Stopped`. The model's choice (DESIGN CHOICE): memory answers a read for which the script has no byte
(notes/assumptions/1.md, 3.md), the script of answers and line calls (3.md), and the record of accesses,
which reset begins anew (10.md). -/
def Obligations.ResetAndPowerOn : Prop :=
  (∀ s : State,
    let s0 : State := { s with
      e := true
      p := (s.p ||| 0x34) &&& ~~~0x08
      x := 0x00#8 ++ lo s.x
      y := 0x00#8 ++ lo s.y
      sp := 0x01#8 ++ lo s.sp
      d := 0x0000
      dbr := 0x00
      k := 0x00
      nmiPending := false
      run := .running
      trace := [] }
    let b0 := s.answer 0 0x00FFFC
    let b1 := s.answer 1 0x00FFFD
    s.resetCore = { s0.accessed [.read .data 0x00FFFC b0, .read .data 0x00FFFD b1] with
      pc := b1 ++ b0 }) ∧
  (∀ s t : State, s.run = .stopped → step s = .next t → t.run = .stopped) ∧
  ∀ (w : ResetDraw) (mem : List Host.Cell) (env : List BusEvent),
    let t := State.powerOn w mem env
    let b := fun (j n : Nat) => ((env[j]?).bind BusEvent.answer).getD (Memory.read mem n)
    t.a = w.a ∧ t.x = 0x00#8 ++ w.xl ∧ t.y = 0x00#8 ++ w.yl ∧ t.sp = 0x01#8 ++ w.sl ∧ t.d = 0x0000 ∧
    t.dbr = 0x00 ∧ t.k = 0x00 ∧ t.e = true ∧ t.run = .running ∧
    t.nmiPending = (firstCalls env 2).foldl LineCall.onNmi false ∧
    t.irqLines = (firstCalls env 2).foldl LineCall.onIrq 0 ∧
    t.cycles = 2 ∧ t.mem = mem ∧ t.env = env.drop 2 ∧
    t.trace = [.read .data 0x00FFFC (b 0 0xFFFC), .read .data 0x00FFFD (b 1 0xFFFD)] ∧
    t.pc = b 1 0xFFFD ++ b 0 0xFFFC ∧
    t.flagM = true ∧ t.flagX = true ∧ t.flagI = true ∧ t.flagD = false ∧
    t.flagC = w.c ∧ t.flagZ = w.z ∧ t.flagV = w.v ∧ t.flagN = w.n

/-- The model's reset state is a power-on with an empty memory for the draw that notes/assumptions/2.md
names: `A = X = Y = 0`, `S = 0x01FF`, `C = Z = V = N = 0` (DESIGN CHOICE of the model). -/
def Obligations.ResetStateIsANamedDraw : Prop :=
  State.reset = State.powerOn
    { a := 0x0000, xl := 0x00, yl := 0x00, sl := 0xFF, c := false, z := false, v := false,
      n := false } [] []

/-- R20, R24, R25, R26, R29 over all instructions of the opcode map: which instructions write each
register besides `P`, and which write memory. -/
def Obligations.RegistersWrittenOnlyBy : Prop :=
  ∀ (i : Instr) (s t : State), i.hasForm = true → s.Inv → exec i s = .next t →
    (i.op ∉ [Op.adc, .sbc, .and, .ora, .eor, .lda, .inc, .dec, .asl, .lsr, .rol, .ror, .pla, .txa,
      .tya, .tsc, .tdc, .xba, .mvn, .mvp] → t.a = s.a) ∧
    (i.op ∉ [Op.ldx, .inx, .dex, .plx, .tax, .tyx, .tsx, .mvn, .mvp, .sep, .plp, .rti, .xce] →
      t.x = s.x) ∧
    (i.op ∉ [Op.ldy, .iny, .dey, .ply, .tay, .txy, .mvn, .mvp, .sep, .plp, .rti, .xce] →
      t.y = s.y) ∧
    (i.op ∉ [Op.pha, .phx, .phy, .php, .phb, .phd, .phk, .pla, .plx, .ply, .plp, .plb, .pld, .pea,
      .pei, .per, .jsr, .jsl, .rts, .rtl, .rti, .brk, .cop, .txs, .tcs, .xce] → t.sp = s.sp) ∧
    (i.op ∉ [Op.tcd, .pld] → t.d = s.d) ∧
    (i.op ∉ [Op.plb, .mvn, .mvp] → t.dbr = s.dbr) ∧
    (i.op ∉ [Op.jml, .jsl, .rtl, .rti, .brk, .cop] → t.k = s.k) ∧
    (i.op = .rti → s.e = true → t.k = s.k) ∧
    (i.op ∉ [Op.bcc, .bcs, .beq, .bne, .bmi, .bpl, .bvc, .bvs, .bra, .brl, .jmp, .jml, .jsr, .jsl,
      .rts, .rtl, .rti, .brk, .cop, .mvn, .mvp] → t.pc = s.pc) ∧
    (i.op ≠ .xce → t.e = s.e) ∧
    (i.op ∉ [Op.wai, .stp] → t.run = s.run) ∧
    (i.op ∉ [Op.sta, .stx, .sty, .stz, .tsb, .trb, .inc, .dec, .asl, .lsr, .rol, .ror, .pha, .phx,
      .phy, .php, .phb, .phd, .phk, .pea, .pei, .per, .jsr, .jsl, .brk, .cop, .mvn, .mvp] →
      t.mem = s.mem)

/-- R38 over all instructions: which instructions write each flag. -/
def Obligations.FlagsWrittenOnlyBy : Prop :=
  ∀ (i : Instr) (s t : State), s.Inv → exec i s = .next t →
    (i.op ∉ [Op.adc, .sbc, .cmp, .cpx, .cpy, .asl, .lsr, .rol, .ror, .clc, .sec, .xce, .rep, .sep,
      .plp, .rti] → t.flagC = s.flagC) ∧
    (i.op ∉ [Op.adc, .sbc, .cmp, .cpx, .cpy, .and, .ora, .eor, .bit, .tsb, .trb, .inc, .dec, .inx,
      .iny, .dex, .dey, .asl, .lsr, .rol, .ror, .lda, .ldx, .ldy, .pla, .plx, .ply, .plb, .pld,
      .tax, .tay, .txa, .tya, .txy, .tyx, .tsx, .tcd, .tdc, .tsc, .xba, .rep, .sep, .plp, .rti] →
      t.flagZ = s.flagZ) ∧
    (i.op ∉ [Op.adc, .sbc, .cmp, .cpx, .cpy, .and, .ora, .eor, .bit, .inc, .dec, .inx, .iny, .dex,
      .dey, .asl, .lsr, .rol, .ror, .lda, .ldx, .ldy, .pla, .plx, .ply, .plb, .pld, .tax, .tay,
      .txa, .tya, .txy, .tyx, .tsx, .tcd, .tdc, .tsc, .xba, .rep, .sep, .plp, .rti] →
      t.flagN = s.flagN) ∧
    (i.op ∉ [Op.adc, .sbc, .bit, .clv, .rep, .sep, .plp, .rti] → t.flagV = s.flagV) ∧
    (∀ v, i = .bit (.immM v) → t.flagN = s.flagN ∧ t.flagV = s.flagV) ∧
    (i.op ∉ [Op.cli, .sei, .rep, .sep, .plp, .rti, .brk, .cop] → t.flagI = s.flagI) ∧
    (i.op ∉ [Op.cld, .sed, .rep, .sep, .plp, .rti, .brk, .cop] → t.flagD = s.flagD) ∧
    (i.op ∉ [Op.rep, .sep, .plp, .rti, .xce] → t.flagX = s.flagX ∧ t.flagM = s.flagM)

/-! ### The bus and the step (20_memory.md, 30_encoding.md) -/

/-- R51, R52: a read answers the byte the bus gives, which may be any byte; a write is recorded; each, and
an idle cycle, is one cycle; no register moves. The model's choice (DESIGN CHOICE): memory answers a read
for which the script has no byte, and a write is in memory (notes/assumptions/1.md); the script of answers
and line calls, one entry for each access or idle cycle (3.md); the record is a field (10.md). -/
def Obligations.BusContract : Prop :=
  ∀ (s : State) (c : AccessKind) (a : Addr) (v : Byte),
    s.read8 c a = (s.answer 0 a, s.accessed [.read c a (s.answer 0 a)]) ∧
    (∃ env, (({ s with env := env }).read8 c a).1 = v) ∧
    s.write8 c a v = s.accessed [.write c a v] ∧
    (s.read8 c a).2.cycles = s.cycles + 1 ∧
    (s.write8 c a v).cycles = s.cycles + 1 ∧
    s.idle = { s with
      cycles := s.cycles + 1
      env := s.env.drop 1
      nmiPending := (firstCalls s.env 1).foldl LineCall.onNmi s.nmiPending
      irqLines := (firstCalls s.env 1).foldl LineCall.onIrq s.irqLines }

/-- Memory is memory: in the canonical form a read gives the byte last written there, a write changes no
other byte, and the form is kept. -/
def Obligations.ReadAfterWrite : Prop :=
  ∀ (mem : List Host.Cell) (a : Addr) (v : Byte), Memory.wf mem = true →
    Memory.wf (Memory.write mem a.toNat v) = true ∧
    (∀ n, Memory.read (Memory.write mem a.toNat v) n = if n = a.toNat then v else Memory.read mem n)

/-- R53 and R59 over all instructions and steps: an instruction's accesses after its fetches are `Data`
accesses; a step's record is its fetches (one `OpcodeFetch`, then `Operand`) and then `Data` accesses;
memory is what the recorded writes make of it; the count of cycles grows by at least one for each access
(R52). A reset makes `Data` accesses only. The model's choice (DESIGN CHOICE): memory is what the writes
make of it (notes/assumptions/1.md), the script gives answers and line calls (3.md), and the record is a
field that each step begins anew (10.md). -/
def Obligations.EveryAccessIsAccounted : Prop :=
  (∀ (i : Instr) (s t : State), exec i s = .next t →
    ∃ l, s.Accounts t l ∧ ∀ x ∈ l, x.kind = .data) ∧
  (∀ s t : State, step s = .next t →
    ∃ n l, t.trace = s.fetches n ++ l ∧ (∀ x ∈ l, x.kind = .data) ∧
      (if s.run = .running then 1 ≤ n ∧ n ≤ 4 else n = 0) ∧
      t.mem = writesOf s.mem t.trace ∧ s.cycles + t.trace.length ≤ t.cycles) ∧
  ∀ s : State, ∀ x ∈ s.resetCore.trace, x.kind = .data

/-- R71, R27: a fetch reads at `K:PC` and moves `PC` on inside the bank; fetching an instruction is its opcode
and as many operand bytes as its mode has, in order; wider operands are low byte first. -/
def Obligations.FetchPrimitives : Prop :=
  (∀ o : OperandBytes, o.w16 = o.b2 ++ o.b1 ∧ o.w24 = o.b3 ++ (o.b2 ++ o.b1)) ∧
  ∀ s : State,
    (∀ c, s.fetch8 c = (s.codeByte 0, { s.accessed [.read c (addr s.k s.pc) (s.codeByte 0)] with
      pc := s.pc + 1 })) ∧
    s.fetchInstr =
      (instrOf (s.codeByte 0) (fetchedOperand s),
        s.fetched (1 + operandCount s.flagM s.flagX (s.codeByte 0)))

/-- R72, R288: a step in each run state. When the bytes at `K:PC` decode to an instruction, `step` is `exec` of
it on the state after its fetches, then its idle cycles, then, unless it was `STP`, the wake of a `WAI` whose
condition already holds and the interrupt check. -/
def Obligations.StepRunsTheDecodedInstruction : Prop :=
  ∀ s : State,
    let s0 : State := { s with trace := [] }
    (s.run = .stopped → step s = .next s0.idle) ∧
    (s.run = .waiting → step s = .next
      (if s.nmiPending = true ∨ s.irqLines ≠ 0 then ({ s0 with run := .running }).interruptCheck
       else s0.idle)) ∧
    (s.run = .running → ∀ (i : Instr) (rest : List Byte),
      decode s.flagM s.flagX s.codeBytes = .ok (i, rest) →
      ∃ t, exec i (s0.fetched i.length) = .next t ∧
        let u := t.spendIdle i
        step s = .next
          (if t.run = .stopped then u
           else if t.run = .waiting ∧ (t.nmiPending = true ∨ t.irqLines ≠ 0) then
             ({ u with run := .running }).interruptCheck
           else u.interruptCheck)) ∧
    ∃ i rest, decode s.flagM s.flagX s.codeBytes = .ok (i, rest)

/-! ### Addressing modes (40_addressing.md) -/

/-- R91, R97 to R104, R120: the direct-page address with the emulation-mode wrap, and the locator and the
pointer reads of every direct-page mode. -/
def Obligations.DirectPageModes : Prop :=
  (∀ (s : State) (off : Word) (q : Bool), s.dpAddr off q =
    if q = true ∧ s.e = true ∧ lo s.d = 0x00 then 0x00#8 ++ (hi s.d ++ lo off)
    else 0x00#8 ++ (s.d + off)) ∧
  ∀ (s : State) (b : Byte),
    let d : Word := 0x00#8 ++ b
    let quirk := fun off : Word => s.dpAddr off true
    let plain := fun off : Word => s.dpAddr off false
    let at2 := fun off : Word =>
      ((s.dbr ++ (s.answer 1 (quirk (off + 1)) ++ s.answer 0 (quirk off)) : Addr),
        s.accessed [.read .data (quirk off) (s.answer 0 (quirk off)),
          .read .data (quirk (off + 1)) (s.answer 1 (quirk (off + 1)))])
    let at3 :=
      ((s.answer 2 (plain (d + 2)) ++ (s.answer 1 (plain (d + 1)) ++ s.answer 0 (plain d)) : Addr),
        s.accessed [.read .data (plain d) (s.answer 0 (plain d)),
          .read .data (plain (d + 1)) (s.answer 1 (plain (d + 1))),
          .read .data (plain (d + 2)) (s.answer 2 (plain (d + 2)))])
    let y : Addr := 0x00#8 ++ s.y
    s.resolveData (.dp b) = (.mem (quirk d) (quirk (d + 1)), s) ∧
    s.resolveData (.dpx b) = (.mem (quirk (d + s.x)) (quirk (d + s.x + 1)), s) ∧
    s.resolveData (.dpy b) = (.mem (quirk (d + s.y)) (quirk (d + s.y + 1)), s) ∧
    s.resolveData (.dpind b) = (.mem (at2 d).1 ((at2 d).1 + 1), (at2 d).2) ∧
    s.resolveData (.dpindx b) =
      (.mem (at2 (d + s.x)).1 ((at2 (d + s.x)).1 + 1), (at2 (d + s.x)).2) ∧
    s.resolveData (.dpindy b) = (.mem ((at2 d).1 + y) ((at2 d).1 + y + 1), (at2 d).2) ∧
    s.resolveData (.dpindl b) = (.mem at3.1 (at3.1 + 1), at3.2) ∧
    s.resolveData (.dpindly b) = (.mem (at3.1 + y) (at3.1 + y + 1), at3.2) ∧
    s.resolveData (.pei b) = (.mem (plain d) (plain (d + 1)), s)

/-- R92 to R96, R121: the modes without an address. The locator of an immediate is its constant, one or two
bytes by the flag of its mode; a signature is not used; implied, stack and accumulator modes take no operand byte. -/
def Obligations.ModesWithoutAddress : Prop :=
  (∀ (o : OperandBytes) (op : Byte),
    (op ∈ immMOpcodes → (instrOf op o).mode =
      .data (.immM (if o.m8 then .byte o.b1 else .word (o.b2 ++ o.b1)))) ∧
    (op ∈ immXOpcodes → (instrOf op o).mode =
      .data (.immX (if o.x8 then .byte o.b1 else .word (o.b2 ++ o.b1)))) ∧
    (op ∈ [(0xC2 : Byte), 0xE2] → (instrOf op o).mode = .data (.imm8 o.b1)) ∧
    (op ∈ [(0x00 : Byte), 0x02, 0x42] → (instrOf op o).mode = .data (.sig o.b1)) ∧
    (instrOf 0xF4 o).mode = .data (.pea (o.b2 ++ o.b1))) ∧
  (∀ (s : State) (b : Byte) (v : Word),
    s.resolveData (.immM (.byte b)) = (.imm (0x00#8 ++ b), s) ∧
    s.resolveData (.immM (.word v)) = (.imm v, s) ∧
    s.resolveData (.immX (.byte b)) = (.imm (0x00#8 ++ b), s) ∧
    s.resolveData (.immX (.word v)) = (.imm v, s) ∧
    s.resolveData (.imm8 b) = (.imm (0x00#8 ++ b), s) ∧
    s.resolveData (.sig b) = (.imm (0x00#8 ++ b), s) ∧
    s.resolveData (.pea v) = (.imm v, s) ∧
    s.resolveData .acc = (.acc, s) ∧
    s.resolve .imp = (.none, s) ∧
    s.resolve .stk = (.none, s)) ∧
  (∀ (s : State) (b c : Byte), exec (.brk b) s = exec (.brk c) s ∧ exec (.cop b) s = exec (.cop c) s ∧
    exec (.wdm b) s = exec (.wdm c) s) ∧
  Mode.imp.bytes = [] ∧ Mode.stk.bytes = [] ∧ (Mode.data .acc).bytes = []

/-- R105 to R111: the absolute and the stack-relative modes. -/
def Obligations.AbsoluteAndStackModes : Prop :=
  ∀ (s : State) (a : Word) (al : Addr) (b : Byte),
    let x : Addr := 0x00#8 ++ s.x
    let y : Addr := 0x00#8 ++ s.y
    let base : Addr := s.dbr ++ a
    let sd : Word := s.sp + (0x00#8 ++ b)
    let p0 := s.answer 0 (0x00#8 ++ sd)
    let p1 := s.answer 1 (0x00#8 ++ (sd + 1))
    let ptr : Addr := s.dbr ++ (p1 ++ p0)
    s.resolveData (.abs a) = (.mem base (base + 1), s) ∧
    s.resolveData (.absx a) = (.mem (base + x) (base + x + 1), s) ∧
    s.resolveData (.absy a) = (.mem (base + y) (base + y + 1), s) ∧
    s.resolveData (.absl al) = (.mem al (al + 1), s) ∧
    s.resolveData (.abslx al) = (.mem (al + x) (al + x + 1), s) ∧
    s.resolveData (.sr b) = (.mem (0x00#8 ++ sd) (0x00#8 ++ (sd + 1)), s) ∧
    s.resolveData (.sriy b) = (.mem (ptr + y) (ptr + y + 1),
      s.accessed [.read .data (0x00#8 ++ sd) p0, .read .data (0x00#8 ++ (sd + 1)) p1])

/-- R112 to R119: the modes of the control transfers and of the block moves. The `PC` of the state is the
offset after the instruction. -/
def Obligations.TargetModes : Prop :=
  ∀ (s : State) (r dst src : Byte) (a : Word) (al : Addr),
    let near := fun p q : Addr =>
      (Loc.target (s.answer 1 q ++ s.answer 0 p),
        s.accessed [.read .data p (s.answer 0 p), .read .data q (s.answer 1 q)])
    let p0 : Addr := 0x00#8 ++ a
    let p1 : Addr := 0x00#8 ++ (a + 1)
    let p2 : Addr := 0x00#8 ++ (a + 2)
    s.resolve (.rel8 r) =
      (.target (s.pc + (if r.toNat < 0x80 then 0x00#8 ++ r else (0x00#8 ++ r) + 0xFF00)), s) ∧
    s.resolve (.rel16 a) = (.target (s.pc + a), s) ∧
    s.resolve (.near (.pcabs a)) = (.target a, s) ∧
    s.resolve (.far (.pcabsl al)) = (.longTarget al, s) ∧
    s.resolve (.near (.absind a)) = near p0 p1 ∧
    s.resolve (.near (.absindx a)) = near (s.k ++ (a + s.x)) (s.k ++ (a + s.x + 1)) ∧
    s.resolve (.far (.absindl a)) = (.longTarget (s.answer 2 p2 ++ (s.answer 1 p1 ++ s.answer 0 p0)),
      s.accessed [.read .data p0 (s.answer 0 p0), .read .data p1 (s.answer 1 p1),
        .read .data p2 (s.answer 2 p2)]) ∧
    s.resolve (.blk dst src) = (.banks src dst, s) ∧
    (Mode.blk dst src).bytes = [dst, src]

/-- R90: `GetValue`, `PutValue` and `PutValueRMW` of every locator they are defined on, with the order of
their accesses. -/
def Obligations.GetAndPutValue : Prop :=
  ∀ (s : State) (a0 a1 : Addr) (v : Word),
    let b0 := s.answer 0 a0
    let b1 := s.answer 1 a1
    s.getValue (.imm v) .w8 = (0x00#8 ++ lo v, s) ∧
    s.getValue (.imm v) .w16 = (v, s) ∧
    s.getValue (.mem a0 a1) .w8 = (0x00#8 ++ b0, s.accessed [.read .data a0 b0]) ∧
    s.getValue (.mem a0 a1) .w16 =
      (b1 ++ b0, s.accessed [.read .data a0 b0, .read .data a1 b1]) ∧
    s.getValue .acc .w8 = (0x00#8 ++ lo s.a, s) ∧
    s.getValue .acc .w16 = (s.a, s) ∧
    s.putValue (.mem a0 a1) .w8 v = s.accessed [.write .data a0 (lo v)] ∧
    s.putValue (.mem a0 a1) .w16 v =
      s.accessed [.write .data a0 (lo v), .write .data a1 (hi v)] ∧
    s.putValueRMW (.mem a0 a1) .w8 v = s.accessed [.write .data a0 (lo v)] ∧
    s.putValueRMW (.mem a0 a1) .w16 v =
      s.accessed [.write .data a1 (hi v), .write .data a0 (lo v)] ∧
    ∀ w, s.putValue .acc w v = s.setA w v ∧ s.putValueRMW .acc w v = s.setA w v

/-- Reading an operand, or the pointer to it, only reads: in every mode it changes no register and no byte of
memory, and the accesses it makes are reads. -/
def Obligations.OperandReadsOnlyRead : Prop :=
  ∀ (s : State) (m : DataMode) (w : Width),
    (s.pointerReads m).all Access.isRead = true ∧
    (s.operandReads m w).all Access.isRead = true ∧
    (s.resolveData m).2 = s.pointerRead m ∧
    (s.operand m w).2 = s.operandRead m w ∧
    (s.operand m w).1 = trunc w (s.operand m w).1

/-- R123, R43, R296: the debugger's two calls. The introspection answers what the resolver gives on the state
after the instruction's fetches when the bus answers from memory, and it answers no state; the operand width
it answers is that of the instruction's rule. For an instruction whose rule names no width or several
(`XBA`, `TXS`, `MVN`, `MVP`, `BRK`, `COP`, `WDM`, and those that answer none) the width is the model's choice
(notes/assumptions/18.md). The snapshot holds every register of `CpuState` as it is. -/
def Obligations.IntrospectionAgrees : Prop :=
  (∀ (s : State) (i : Instr), s.env = [] →
    (introspect i s).1 = ((s.fetched i.length).resolve i.mode).1) ∧
  (∀ (s : State) (i : Instr), (introspect i s).2 =
    if i.op ∈ [Op.adc, .sbc, .cmp, .and, .ora, .eor, .bit, .tsb, .trb, .inc, .dec, .lda, .sta, .stz,
        .asl, .lsr, .rol, .ror, .pha, .pla, .txa, .tya] then some s.wM
    else if i.op ∈ [Op.cpx, .cpy, .inx, .iny, .dex, .dey, .ldx, .ldy, .stx, .sty, .phx, .phy, .plx,
        .ply, .tax, .tay, .txy, .tyx, .tsx] then some s.wX
    else if i.op ∈ [Op.php, .plp, .phb, .plb, .phk, .rep, .sep, .xba, .mvn, .mvp, .brk, .cop,
        .wdm] then some .w8
    else if i.op ∈ [Op.phd, .pld, .pea, .pei, .per, .tcd, .tdc, .tcs, .tsc, .txs] then some .w16
    else none) ∧
  ∀ s : State, s.snapshot =
    { pc := s.pc, k := s.k, dbr := s.dbr, d := s.d, sp := s.sp, a := s.a, x := s.x, y := s.y,
      ps := s.p, emulationMode := s.e, cycleCount := s.cycles }

/-! ### Arithmetic, compare, logic, increment (41_arithmetic_logic.md) -/

/-- R131: `ADC` in all its forms, binary and decimal. -/
def Obligations.AdcAddsWithCarry : Prop :=
  OpcodesAre (accumulatorOpcodes 0x60) (fun o => (accumulatorModes o).map .adc) ∧
  ∀ m : DataMode, Completes (.adc m) fun s =>
    let r := specAdc s.flagD s.wM (trunc s.wM s.a).toNat (s.operand m s.wM).1.toNat s.flagC.toNat
    let v := BitVec.ofNat 16 r.res
    { s.operandRead m s.wM with
      a := accWith s.wM s.a v
      p := withMask (withMask (withNZ s.p s.wM v) maskV r.v) maskC r.cout }

/-- R132: `SBC` in all its forms, binary and decimal. -/
def Obligations.SbcSubtractsWithBorrow : Prop :=
  OpcodesAre (accumulatorOpcodes 0xE0) (fun o => (accumulatorModes o).map .sbc) ∧
  ∀ m : DataMode, Completes (.sbc m) fun s =>
    let r := specSbc s.flagD s.wM (trunc s.wM s.a).toNat (s.operand m s.wM).1.toNat s.flagC.toNat
    let v := BitVec.ofNat 16 r.res
    { s.operandRead m s.wM with
      a := accWith s.wM s.a v
      p := withMask (withMask (withNZ s.p s.wM v) maskV r.v) maskC r.cout }

/-- Binary `ADC` and `SBC` are integer addition and subtraction (R148, an inference of the spec): the result
and the carry are the two digits of the exact sum to the base `2^w`, and `V` says that the signed result does
not fit. -/
def Obligations.BinaryArithmeticIsInteger : Prop :=
  ∀ (w : Width) (a m : Word) (c : Bool), trunc w a = a → trunc w m = m →
    let n : Nat := 2 ^ bitsOf w
    let add := adcOut false w a m c
    let sub := sbcOut false w a m c
    add.res.toNat + (if add.c then n else 0) = a.toNat + m.toNat + c.toNat ∧
    sub.res.toNat + m.toNat + (if c then 0 else 1) = a.toNat + (if sub.c then 0 else n) ∧
    (add.v = true ↔
      ¬ (-((n : Int) / 2) ≤ signedOf w a + signedOf w m + c.toNat ∧
        signedOf w a + signedOf w m + c.toNat < (n : Int) / 2)) ∧
    (sub.v = true ↔
      ¬ (-((n : Int) / 2) ≤ signedOf w a - signedOf w m - (1 - c.toNat) ∧
        signedOf w a - signedOf w m - (1 - c.toNat) < (n : Int) / 2))

/-- Decimal `ADC` and `SBC` on operands whose digits are all 9 or less are decimal addition and subtraction:
the result has such digits, and with the carry it is the exact sum or difference. -/
def Obligations.DecimalArithmeticIsDecimal : Prop :=
  ∀ (w : Width) (a m : Word) (c : Bool), trunc w a = a → trunc w m = m →
    isBcd (bitsOf w) a.toNat → isBcd (bitsOf w) m.toNat →
    let n : Nat := 10 ^ (bitsOf w / 4)
    let val := fun v : Word => bcdValue (bitsOf w) v.toNat
    let add := adcOut true w a m c
    let sub := sbcOut true w a m c
    isBcd (bitsOf w) add.res.toNat ∧ isBcd (bitsOf w) sub.res.toNat ∧
    val add.res + (if add.c then n else 0) = val a + val m + c.toNat ∧
    val sub.res + val m + (if c then 0 else 1) = val a + (if sub.c then 0 else n)

/-- R133, R134, R135: the compares write `C`, `Z` and `N` and nothing else, whatever `P.D` holds. -/
def Obligations.ComparesSetFlagsOnly : Prop :=
  OpcodesAre (accumulatorOpcodes 0xC0) (fun o => (accumulatorModes o).map .cmp) ∧
  OpcodesAre [0xE0, 0xE4, 0xEC] (fun o =>
    [.cpx (.immX (if o.x8 then .byte o.b1 else .word (o.b2 ++ o.b1))), .cpx (.dp o.b1),
      .cpx (.abs (o.b2 ++ o.b1))]) ∧
  OpcodesAre [0xC0, 0xC4, 0xCC] (fun o =>
    [.cpy (.immX (if o.x8 then .byte o.b1 else .word (o.b2 ++ o.b1))), .cpy (.dp o.b1),
      .cpy (.abs (o.b2 ++ o.b1))]) ∧
  ∀ m : DataMode,
    let flags := fun (s : State) (w : Width) (a : Word) =>
      let v := (s.operand m w).1
      withNZ (withMask s.p maskC (decide (v.toNat ≤ (trunc w a).toNat))) w (trunc w a - v)
    Completes (.cmp m) (fun s => { s.operandRead m s.wM with p := flags s s.wM s.a }) ∧
    Completes (.cpx m) (fun s => { s.operandRead m s.wX with p := flags s s.wX s.x }) ∧
    Completes (.cpy m) (fun s => { s.operandRead m s.wX with p := flags s s.wX s.y })

/-- R136, R137, R138: `AND`, `ORA` and `EOR`; with `P.M = 1` the high byte of `A` is unchanged. -/
def Obligations.LogicIntoTheAccumulator : Prop :=
  OpcodesAre (accumulatorOpcodes 0x20) (fun o => (accumulatorModes o).map .and) ∧
  OpcodesAre (accumulatorOpcodes 0x00) (fun o => (accumulatorModes o).map .ora) ∧
  OpcodesAre (accumulatorOpcodes 0x40) (fun o => (accumulatorModes o).map .eor) ∧
  ∀ m : DataMode,
    let into := fun (s : State) (v : Word) =>
      ({ s.operandRead m s.wM with a := accWith s.wM s.a v, p := withNZ s.p s.wM v } : State)
    Completes (.and m) (fun s => into s (s.a &&& (s.operand m s.wM).1)) ∧
    Completes (.ora m) (fun s => into s (s.a ||| (s.operand m s.wM).1)) ∧
    Completes (.eor m) (fun s => into s (s.a ^^^ (s.operand m s.wM).1))

/-- R139: `BIT`; `N` and `V` are bits of the operand and only its memory forms write them. -/
def Obligations.BitTestsTheOperand : Prop :=
  OpcodesAre [0x24, 0x2C, 0x34, 0x3C, 0x89] (fun o =>
    [.bit (.dp o.b1), .bit (.abs (o.b2 ++ o.b1)), .bit (.dpx o.b1), .bit (.absx (o.b2 ++ o.b1)),
      .bit (.immM (if o.m8 then .byte o.b1 else .word (o.b2 ++ o.b1)))]) ∧
  (∀ i : Imm, Completes (.bit (.immM i)) fun s =>
    let v := (s.operand (.immM i) s.wM).1
    { s.operandRead (.immM i) s.wM with
      p := withMask s.p maskZ (decide (trunc s.wM s.a &&& v = 0)) }) ∧
  ∀ m : DataMode, (∀ s : State, ∃ a0 a1, (s.resolveData m).1 = .mem a0 a1) →
    Completes (.bit m) fun s =>
      let v := (s.operand m s.wM).1
      { s.operandRead m s.wM with
        p := withMask (withMask (withMask s.p maskZ (decide (trunc s.wM s.a &&& v = 0)))
          maskN (v.getLsbD (bitsOf s.wM - 1))) maskV (v.getLsbD (bitsOf s.wM - 2)) }

/-- R140, R141: `TSB` and `TRB` set `Z` from the and and nothing else, and write their result back, high byte
first, even where no bit changes. -/
def Obligations.TestAndSetWritesBack : Prop :=
  OpcodesAre [0x04, 0x0C, 0x14, 0x1C] (fun o =>
    [.tsb (.dp o.b1), .tsb (.abs (o.b2 ++ o.b1)), .trb (.dp o.b1), .trb (.abs (o.b2 ++ o.b1))]) ∧
  ∀ (s : State) (m : DataMode) (a0 a1 : Addr), s.Inv → (s.resolveData m).1 = .mem a0 a1 →
    let v := (s.operand m s.wM).1
    let a := trunc s.wM s.a
    let base : State := { s.operandRead m s.wM with p := withMask s.p maskZ (decide (a &&& v = 0)) }
    (∃ t, exec (.tsb m) s = .next t ∧
      base.Stores t s.wM a0 a1 (v ||| a) (highFirst s.wM a0 a1 (v ||| a))) ∧
    ∃ t, exec (.trb m) s = .next t ∧
      base.Stores t s.wM a0 a1 (v &&& ~~~a) (highFirst s.wM a0 a1 (v &&& ~~~a))

/-- R142, R143: `INC` and `DEC` of the accumulator and of memory: `N` and `Z` only, modulo `2^w`, whatever
`P.D` holds. -/
def Obligations.IncrementAndDecrement : Prop :=
  OpcodesAre [0x1A, 0xE6, 0xEE, 0xF6, 0xFE, 0x3A, 0xC6, 0xCE, 0xD6, 0xDE] (fun o =>
    let a : Word := o.b2 ++ o.b1
    [.inc .acc, .inc (.dp o.b1), .inc (.abs a), .inc (.dpx o.b1), .inc (.absx a),
      .dec .acc, .dec (.dp o.b1), .dec (.abs a), .dec (.dpx o.b1), .dec (.absx a)]) ∧
  ReadsModifiesWrites .inc (fun w v _ => (v + 1) % 2 ^ w) none ∧
  ReadsModifiesWrites .dec (fun w v _ => (v + (2 ^ w - 1)) % 2 ^ w) none

/-- R144 to R147: `INX`, `INY`, `DEX`, `DEY` at index width. -/
def Obligations.IndexIncrementAndDecrement : Prop :=
  OpcodesAre [0xE8, 0xC8, 0xCA, 0x88] (fun _ => [.inx, .iny, .dex, .dey]) ∧
  Completes .inx (fun s => { s with x := trunc s.wX (s.x + 1), p := withNZ s.p s.wX (s.x + 1) }) ∧
  Completes .iny (fun s => { s with y := trunc s.wX (s.y + 1), p := withNZ s.p s.wX (s.y + 1) }) ∧
  Completes .dex (fun s => { s with x := trunc s.wX (s.x - 1), p := withNZ s.p s.wX (s.x - 1) }) ∧
  Completes .dey (fun s => { s with y := trunc s.wX (s.y - 1), p := withNZ s.p s.wX (s.y - 1) })

/-! ### Loads, stores, transfers, block moves (42_load_store_transfer.md) -/

/-- R161, R162, R163: the loads. -/
def Obligations.LoadsSetNZ : Prop :=
  OpcodesAre (accumulatorOpcodes 0xA0) (fun o => (accumulatorModes o).map .lda) ∧
  OpcodesAre [0xA2, 0xA6, 0xAE, 0xB6, 0xBE] (fun o =>
    let a : Word := o.b2 ++ o.b1
    [.ldx (.immX (if o.x8 then .byte o.b1 else .word a)), .ldx (.dp o.b1), .ldx (.abs a),
      .ldx (.dpy o.b1), .ldx (.absy a)]) ∧
  OpcodesAre [0xA0, 0xA4, 0xAC, 0xB4, 0xBC] (fun o =>
    let a : Word := o.b2 ++ o.b1
    [.ldy (.immX (if o.x8 then .byte o.b1 else .word a)), .ldy (.dp o.b1), .ldy (.abs a),
      .ldy (.dpx o.b1), .ldy (.absx a)]) ∧
  ∀ m : DataMode,
    Completes (.lda m) (fun s =>
      let v := (s.operand m s.wM).1
      { s.operandRead m s.wM with a := accWith s.wM s.a v, p := withNZ s.p s.wM v }) ∧
    Completes (.ldx m) (fun s =>
      let v := (s.operand m s.wX).1
      { s.operandRead m s.wX with x := v, p := withNZ s.p s.wX v }) ∧
    Completes (.ldy m) (fun s =>
      let v := (s.operand m s.wX).1
      { s.operandRead m s.wX with y := v, p := withNZ s.p s.wX v })

/-- R164 to R167: the stores write their register, or zero, at its width, low byte first, at the locator of
their mode; no flag, no register and no other byte of memory changes. -/
def Obligations.StoresWriteMemoryOnly : Prop :=
  OpcodesAre [0x81, 0x83, 0x85, 0x87, 0x8D, 0x8F, 0x91, 0x92, 0x93, 0x95, 0x97, 0x99, 0x9D, 0x9F]
    (fun o =>
      let a : Word := o.b2 ++ o.b1
      let al : Addr := o.b3 ++ (o.b2 ++ o.b1)
      [.sta (.dpindx o.b1), .sta (.sr o.b1), .sta (.dp o.b1), .sta (.dpindl o.b1), .sta (.abs a),
        .sta (.absl al), .sta (.dpindy o.b1), .sta (.dpind o.b1), .sta (.sriy o.b1),
        .sta (.dpx o.b1), .sta (.dpindly o.b1), .sta (.absy a), .sta (.absx a),
        .sta (.abslx al)]) ∧
  OpcodesAre [0x86, 0x8E, 0x96, 0x84, 0x8C, 0x94, 0x64, 0x74, 0x9C, 0x9E] (fun o =>
    let a : Word := o.b2 ++ o.b1
    [.stx (.dp o.b1), .stx (.abs a), .stx (.dpy o.b1), .sty (.dp o.b1), .sty (.abs a),
      .sty (.dpx o.b1), .stz (.dp o.b1), .stz (.dpx o.b1), .stz (.abs a), .stz (.absx a)]) ∧
  ∀ (s : State) (m : DataMode) (a0 a1 : Addr), s.Inv → (s.resolveData m).1 = .mem a0 a1 →
    let stores := fun (i : Instr) (w : Width) (v : Word) =>
      ∃ t, exec i s = .next t ∧ (s.pointerRead m).Stores t w a0 a1 v (storeOrder w a0 a1 v)
    stores (.sta m) s.wM s.a ∧ stores (.stx m) s.wX s.x ∧ stores (.sty m) s.wX s.y ∧
      stores (.stz m) s.wM 0

/-- R168 to R180: the transfers. -/
def Obligations.TransfersCopyRegisters : Prop :=
  OpcodesAre [0xAA, 0xA8, 0x8A, 0x98, 0x9B, 0xBB, 0xBA, 0x9A, 0x1B, 0x3B, 0x5B, 0x7B, 0xEB]
    (fun _ => [.tax, .tay, .txa, .tya, .txy, .tyx, .tsx, .txs, .tcs, .tsc, .tcd, .tdc, .xba]) ∧
  Completes .tax (fun s => { s with x := trunc s.wX s.a, p := withNZ s.p s.wX s.a }) ∧
  Completes .tay (fun s => { s with y := trunc s.wX s.a, p := withNZ s.p s.wX s.a }) ∧
  Completes .txa (fun s => { s with a := accWith s.wM s.a s.x, p := withNZ s.p s.wM s.x }) ∧
  Completes .tya (fun s => { s with a := accWith s.wM s.a s.y, p := withNZ s.p s.wM s.y }) ∧
  Completes .txy (fun s => { s with y := s.x, p := withNZ s.p s.wX s.x }) ∧
  Completes .tyx (fun s => { s with x := s.y, p := withNZ s.p s.wX s.y }) ∧
  Completes .tsx (fun s => { s with x := trunc s.wX s.sp, p := withNZ s.p s.wX s.sp }) ∧
  Completes .txs (fun s => { s with sp := if s.e then 0x01#8 ++ lo s.x else s.x }) ∧
  Completes .tcs (fun s => { s with sp := if s.e then 0x01#8 ++ lo s.a else s.a }) ∧
  Completes .tsc (fun s => { s with a := s.sp, p := withNZ s.p .w16 s.sp }) ∧
  Completes .tcd (fun s => { s with d := s.a, p := withNZ s.p .w16 s.a }) ∧
  Completes .tdc (fun s => { s with a := s.d, p := withNZ s.p .w16 s.d }) ∧
  Completes .xba (fun s =>
    { s with a := lo s.a ++ hi s.a, p := withNZ s.p .w8 (0x00#8 ++ hi s.a) })

/-- R182, R183: one step of `MVN` and `MVP` moves one byte, steps the offsets at index width, counts `A` down
over 16 bits, and goes back to the instruction while bytes remain. The `PC` of `s` is the offset after the
instruction. -/
def Obligations.BlockMovesOneByte : Prop :=
  OpcodesAre [0x54, 0x44] (fun o => [.mvn o.b1 o.b2, .mvp o.b1 o.b2]) ∧
  ∀ (s : State) (dst src : Byte), s.Inv →
    let source : Addr := src ++ s.x
    let dest : Addr := dst ++ s.y
    let v := s.answer 0 source
    let base : State := { s.accessed [.read .data source v] with
      mem := s.mem
      a := s.a - 1
      dbr := dst
      pc := if s.a - 1 = 0xFFFF then s.pc else s.pc - 3 }
    (∃ t, exec (.mvn dst src) s = .next t ∧
      State.Stores { base with x := trunc s.wX (s.x + 1), y := trunc s.wX (s.y + 1) } t .w8 dest dest
        (0x00#8 ++ v) [.write .data dest v]) ∧
    ∃ t, exec (.mvp dst src) s = .next t ∧
      State.Stores { base with x := trunc s.wX (s.x - 1), y := trunc s.wX (s.y - 1) } t .w8 dest dest
        (0x00#8 ++ v) [.write .data dest v]

/-! ### Shifts and rotates (43_shift_rotate.md) -/

/-- R191 to R194: the shifts and rotates of the accumulator and of memory; `C` is the bit shifted out. -/
def Obligations.ShiftsAndRotates : Prop :=
  OpcodesAre [0x06, 0x0A, 0x0E, 0x16, 0x1E, 0x46, 0x4A, 0x4E, 0x56, 0x5E, 0x26, 0x2A, 0x2E, 0x36,
      0x3E, 0x66, 0x6A, 0x6E, 0x76, 0x7E] (fun o =>
    let a : Word := o.b2 ++ o.b1
    let modes : List DataMode := [.dp o.b1, .acc, .abs a, .dpx o.b1, .absx a]
    modes.map .asl ++ modes.map .lsr ++ modes.map .rol ++ modes.map .ror) ∧
  ReadsModifiesWrites .asl (fun w v _ => 2 * v % 2 ^ w) (some fun w => w - 1) ∧
  ReadsModifiesWrites .lsr (fun _ v _ => v / 2) (some fun _ => 0) ∧
  ReadsModifiesWrites .rol (fun w v c => (2 * v + c) % 2 ^ w) (some fun w => w - 1) ∧
  ReadsModifiesWrites .ror (fun w v c => v / 2 + c * 2 ^ (w - 1)) (some fun _ => 0)

/-! ### The stack (44_stack.md) -/

/-- R200 to R203: the stack primitives, with the emulation-mode wrap in page 1. The last clause, that where
the bus answers from memory a pull of a word gives the word just pushed and `S` is back, is the inference
that R203 marks "[derived: from rule R200 and rule R201]". -/
def Obligations.StackPrimitives : Prop :=
  ∀ (s : State) (b : Byte) (v : Word), s.Inv →
    s.push8 b = { s.accessed [.write .data (0x00#8 ++ s.sp) b] with sp := s.down 1 } ∧
    s.push16 v = { s.accessed [.write .data (0x00#8 ++ s.sp) (hi v),
        .write .data (0x00#8 ++ s.down 1) (lo v)] with sp := s.down 2 } ∧
    s.pull8 = (s.stackByte 1,
      { s.accessed [.read .data (0x00#8 ++ s.up 1) (s.stackByte 1)] with sp := s.up 1 }) ∧
    s.pull16 = (s.stackByte 2 ++ s.stackByte 1,
      { s.accessed [.read .data (0x00#8 ++ s.up 1) (s.stackByte 1),
          .read .data (0x00#8 ++ s.up 2) (s.stackByte 2)] with sp := s.up 2 }) ∧
    (s.env = [] → (s.push16 v).pull16.1 = v ∧ (s.push16 v).pull16.2.sp = s.sp)

/-- R204 to R210: the pushes, by their width; no flag and no other register changes. -/
def Obligations.PushesWriteTheStack : Prop :=
  OpcodesAre [0x48, 0xDA, 0x5A, 0x08, 0x8B, 0x0B, 0x4B]
    (fun _ => [.pha, .phx, .phy, .php, .phb, .phd, .phk]) ∧
  ∀ s : State, s.Inv →
    let pushes := fun (i : Instr) (w : Width) (v : Word) => ∃ t, exec i s = .next t ∧ s.Pushes t w v
    pushes .pha s.wM s.a ∧ pushes .phx s.wX s.x ∧ pushes .phy s.wX s.y ∧
    pushes .php .w8 (0x00#8 ++ s.p) ∧ pushes .phb .w8 (0x00#8 ++ s.dbr) ∧ pushes .phd .w16 s.d ∧
    pushes .phk .w8 (0x00#8 ++ s.k)

/-- R211 to R216: the pulls; `PLP` truncates the index registers when the pulled byte sets `X`. -/
def Obligations.PullsReadTheStack : Prop :=
  OpcodesAre [0x68, 0xFA, 0x7A, 0x28, 0xAB, 0x2B]
    (fun _ => [.pla, .plx, .ply, .plp, .plb, .pld]) ∧
  Completes .pla (fun s =>
    let v := s.pulledValue s.wM
    { s.pulled (bytesOf s.wM) with a := accWith s.wM s.a v, p := withNZ s.p s.wM v }) ∧
  Completes .plx (fun s =>
    let v := s.pulledValue s.wX
    { s.pulled (bytesOf s.wX) with x := v, p := withNZ s.p s.wX v }) ∧
  Completes .ply (fun s =>
    let v := s.pulledValue s.wX
    { s.pulled (bytesOf s.wX) with y := v, p := withNZ s.p s.wX v }) ∧
  Completes .plp (fun s =>
    let p := if s.e then s.stackByte 1 ||| 0x30 else s.stackByte 1
    { s.pulled 1 with
      p := p
      x := if p.getLsbD 4 then 0x00#8 ++ lo s.x else s.x
      y := if p.getLsbD 4 then 0x00#8 ++ lo s.y else s.y }) ∧
  Completes .plb (fun s =>
    { s.pulled 1 with dbr := s.stackByte 1, p := withNZ s.p .w8 (0x00#8 ++ s.stackByte 1) }) ∧
  Completes .pld (fun s =>
    let v := s.pulledValue .w16
    { s.pulled 2 with d := v, p := withNZ s.p .w16 v })

/-- R217, R218, R219: `PEA`, `PEI` and `PER` push two bytes whatever `P.M` is; `PEI` reads its word without the
page wrap, the others read no memory. -/
def Obligations.PushEffectiveAddress : Prop :=
  OpcodesAre [0xF4, 0xD4, 0x62] (fun o =>
    [.pea (o.b2 ++ o.b1), .pei o.b1, .per (o.b2 ++ o.b1)]) ∧
  ∀ (s : State) (a : Word) (b : Byte), s.Inv →
    (∃ t, exec (.pea a) s = .next t ∧ s.Pushes t .w16 a) ∧
    (let p0 : Addr := 0x00#8 ++ (s.d + (0x00#8 ++ b))
     let p1 : Addr := 0x00#8 ++ (s.d + (0x00#8 ++ b) + 1)
     let v0 := s.answer 0 p0
     let v1 := s.answer 1 p1
     ∃ t, exec (.pei b) s = .next t ∧
       (s.accessed [.read .data p0 v0, .read .data p1 v1]).Pushes t .w16 (v1 ++ v0)) ∧
    ∃ t, exec (.per a) s = .next t ∧ s.Pushes t .w16 (s.pc + a)

/-! ### Mode switches and flags (45_mode_switch.md) -/

/-- R220, R221: `REP` and `SEP`; in emulation mode `M` and `X` stay set, and setting `X` clears the high bytes of
the index registers at once. -/
def Obligations.RepAndSep : Prop :=
  OpcodesAre [0xC2, 0xE2] (fun o => [.rep o.b1, .sep o.b1]) ∧
  ∀ mask : Byte,
    let become := fun (s : State) (q : Byte) =>
      let p := if s.e then q ||| 0x30 else q
      ({ s with
        p := p
        x := if p.getLsbD 4 then 0x00#8 ++ lo s.x else s.x
        y := if p.getLsbD 4 then 0x00#8 ++ lo s.y else s.y } : State)
    Completes (.rep mask) (fun s => become s (s.p &&& ~~~mask)) ∧
    Completes (.sep mask) (fun s => become s (s.p ||| mask))

/-- R222: `XCE`: `C` gets the old `E`, `E` the old `C`; entering emulation mode applies its invariants, leaving it
changes nothing else. -/
def Obligations.XceExchanges : Prop :=
  OpcodesAre [0xFB] (fun _ => [.xce]) ∧
  Completes .xce (fun s =>
    let p := withMask s.p maskC s.e
    if s.flagC then { s with
      e := true
      p := p ||| 0x30
      x := 0x00#8 ++ lo s.x
      y := 0x00#8 ++ lo s.y
      sp := 0x01#8 ++ lo s.sp }
    else { s with e := false, p := p })

/-- R223 to R229: each single-flag instruction writes its flag and nothing else; an asserted line is taken at the
boundary of `CLI` itself and not at that of `SEI`. -/
def Obligations.SingleFlagInstructions : Prop :=
  OpcodesAre [0x18, 0xD8, 0x58, 0xB8, 0x38, 0xF8, 0x78]
    (fun _ => [.clc, .cld, .cli, .clv, .sec, .sed, .sei]) ∧
  Completes .clc (fun s => { s with p := s.p &&& ~~~0x01 }) ∧
  Completes .cld (fun s => { s with p := s.p &&& ~~~0x08 }) ∧
  Completes .cli (fun s => { s with p := s.p &&& ~~~0x04 }) ∧
  Completes .clv (fun s => { s with p := s.p &&& ~~~0x40 }) ∧
  Completes .sec (fun s => { s with p := s.p ||| 0x01 }) ∧
  Completes .sed (fun s => { s with p := s.p ||| 0x08 }) ∧
  Completes .sei (fun s => { s with p := s.p ||| 0x04 }) ∧
  ∀ s t : State, s.Inv → s.run = .running → s.nmiPending = false → s.irqLines ≠ 0 →
    (exec .cli s = .next t → t.boundary .cli =
      (t.spendIdle .cli).enter .hardware (if s.e then 0xFFFE else 0xFFEE)) ∧
    (exec .sei s = .next t → t.boundary .sei = t.spendIdle .sei)

/-! ### Control transfer (46_control_transfer.md) -/

/-- R240 to R250: the branches; a taken one goes to the displaced offset inside bank `K`, one that is not taken
leaves `PC` after the instruction, and nothing else changes. -/
def Obligations.BranchesMoveOnlyPC : Prop :=
  OpcodesAre [0x90, 0xB0, 0xF0, 0xD0, 0x30, 0x10, 0x50, 0x70, 0x80, 0x82] (fun o =>
    [.bcc o.b1, .bcs o.b1, .beq o.b1, .bne o.b1, .bmi o.b1, .bpl o.b1, .bvc o.b1, .bvs o.b1,
      .bra o.b1, .brl (o.b2 ++ o.b1)]) ∧
  ∀ (s : State) (r : Byte) (rl : Word),
    let d : Word := if r.toNat < 0x80 then 0x00#8 ++ r else (0x00#8 ++ r) + 0xFF00
    let go := fun taken : Bool => ({ s with pc := if taken then s.pc + d else s.pc } : State)
    exec (.bcc r) s = .next (go (s.flagC = false)) ∧
    exec (.bcs r) s = .next (go (s.flagC = true)) ∧
    exec (.beq r) s = .next (go (s.flagZ = true)) ∧
    exec (.bne r) s = .next (go (s.flagZ = false)) ∧
    exec (.bmi r) s = .next (go (s.flagN = true)) ∧
    exec (.bpl r) s = .next (go (s.flagN = false)) ∧
    exec (.bvc r) s = .next (go (s.flagV = false)) ∧
    exec (.bvs r) s = .next (go (s.flagV = true)) ∧
    exec (.bra r) s = .next (go true) ∧
    exec (.brl rl) s = .next { s with pc := s.pc + rl }

/-- R251, R252: `JMP` keeps `K`, `JML` writes it; the pointer forms read their pointer and nothing else. -/
def Obligations.JumpsGoToTheirTarget : Prop :=
  OpcodesAre [0x4C, 0x6C, 0x7C, 0x5C, 0xDC] (fun o =>
    let a : Word := o.b2 ++ o.b1
    [.jmp (.pcabs a), .jmp (.absind a), .jmp (.absindx a), .jml (.pcabsl (o.b3 ++ (o.b2 ++ o.b1))),
      .jml (.absindl a)]) ∧
  ∀ (s : State) (a : Word) (al : Addr),
    let via := fun p q : Addr =>
      ({ s.accessed [.read .data p (s.answer 0 p), .read .data q (s.answer 1 q)] with
        pc := s.answer 1 q ++ s.answer 0 p } : State)
    let p0 : Addr := 0x00#8 ++ a
    let p1 : Addr := 0x00#8 ++ (a + 1)
    let p2 : Addr := 0x00#8 ++ (a + 2)
    exec (.jmp (.pcabs a)) s = .next { s with pc := a } ∧
    exec (.jmp (.absind a)) s = .next (via p0 p1) ∧
    exec (.jmp (.absindx a)) s = .next (via (s.k ++ (a + s.x)) (s.k ++ (a + s.x + 1))) ∧
    exec (.jml (.pcabsl al)) s =
      .next { s with k := al.extractLsb' 16 8, pc := al.extractLsb' 0 16 } ∧
    exec (.jml (.absindl a)) s = .next
      { s.accessed [.read .data p0 (s.answer 0 p0), .read .data p1 (s.answer 1 p1),
          .read .data p2 (s.answer 2 p2)] with
        k := s.answer 2 p2
        pc := s.answer 1 p1 ++ s.answer 0 p0 }

/-- R253, R254: the calls push the address of their own last byte, `JSL` after `K`; the pointer of `JSR (a,X)` is
read before the push. The `PC` of `s` is the offset after the instruction. -/
def Obligations.CallsPushReturnAddress : Prop :=
  OpcodesAre [0x20, 0xFC, 0x22] (fun o =>
    [.jsr (.pcabs (o.b2 ++ o.b1)), .jsr (.absindx (o.b2 ++ o.b1)), .jsl (o.b3 ++ (o.b2 ++ o.b1))]) ∧
  ∀ (s : State) (a : Word) (al : Addr), s.Inv →
    (∃ t, exec (.jsr (.pcabs a)) s = .next t ∧
      State.Pushes { s with pc := a } t .w16 (s.pc - 1)) ∧
    (∀ m : NearMode, ∃ t, exec (.jsr m) s = .next t ∧
      State.Pushes { (s.resolveNear m).2 with pc := (s.resolveNear m).1 } t .w16 (s.pc - 1)) ∧
    (let p : Addr := s.k ++ (a + s.x)
     let q : Addr := s.k ++ (a + s.x + 1)
     s.resolveNear (.absindx a) = (s.answer 1 q ++ s.answer 0 p,
       s.accessed [.read .data p (s.answer 0 p), .read .data q (s.answer 1 q)])) ∧
    let a0 : Addr := 0x00#8 ++ s.sp
    let a1 : Addr := 0x00#8 ++ s.down 1
    let a2 : Addr := 0x00#8 ++ s.down 2
    ∃ t, exec (.jsl al) s = .next t ∧
      t = { s.accessed [.write .data a0 s.k, .write .data a1 (hi (s.pc - 1)),
          .write .data a2 (lo (s.pc - 1))] with
        sp := s.down 3
        k := al.extractLsb' 16 8
        pc := al.extractLsb' 0 16 } ∧
      Memory.read t.mem a0.toNat = s.k ∧
      Memory.read t.mem a1.toNat = hi (s.pc - 1) ∧
      Memory.read t.mem a2.toNat = lo (s.pc - 1) ∧
      s.SameOutside t [a0, a1, a2]

/-- R255, R256, R257: the returns. `RTI` pulls `K` only in native mode and truncates the index registers when the
pulled `P` sets `X`. -/
def Obligations.ReturnsPull : Prop :=
  OpcodesAre [0x60, 0x6B, 0x40] (fun _ => [.rts, .rtl, .rti]) ∧
  Completes .rts (fun s => { s.pulled 2 with pc := s.stackByte 2 ++ s.stackByte 1 + 1 }) ∧
  Completes .rtl (fun s =>
    { s.pulled 3 with k := s.stackByte 3, pc := s.stackByte 2 ++ s.stackByte 1 + 1 }) ∧
  Completes .rti (fun s =>
    let p := if s.e then s.stackByte 1 ||| 0x30 else s.stackByte 1
    let t : State := { s.pulled (if s.e then 3 else 4) with
      p := p
      x := if p.getLsbD 4 then 0x00#8 ++ lo s.x else s.x
      y := if p.getLsbD 4 then 0x00#8 ++ lo s.y else s.y
      pc := s.stackByte 3 ++ s.stackByte 2 }
    if s.e then t else { t with k := s.stackByte 4 })

/-- The source's round trip (R253, R254): a return right after its call goes to the byte after the call, with the
stack pointer and the bank as before; the bus answers from memory. -/
def Obligations.ReturnUndoesCall : Prop :=
  ∀ (s : State) (m : NearMode) (al : Addr), s.Inv → s.env = [] →
    (∃ t u, exec (.jsr m) s = .next t ∧ exec .rts t = .next u ∧
      u.pc = s.pc ∧ u.sp = s.sp ∧ u.k = s.k ∧ u.p = s.p) ∧
    ∃ t u, exec (.jsl al) s = .next t ∧ exec .rtl t = .next u ∧
      u.pc = s.pc ∧ u.sp = s.sp ∧ u.k = s.k ∧ u.p = s.p

/-! ### System instructions and interrupts (47_system.md, 60_exceptions.md) -/

/-- R272 to R275: `NOP` and `WDM` change nothing; `WAI` and `STP` write the run state only. A
wake condition already present at the end of `WAI` wakes in the same step. A waiting core spends idle cycles until an NMI is pending
or a line is asserted, whatever `P.I` holds; with `P.I = 1` and only an IRQ it then enters nothing. -/
def Obligations.WaitStopAndNothing : Prop :=
  OpcodesAre [0xCB, 0xDB, 0xEA, 0x42] (fun o => [.wai, .stp, .nop, .wdm o.b1]) ∧
  (∀ (s : State) (sig : Byte), exec .nop s = .next s ∧ exec (.wdm sig) s = .next s) ∧
  (∀ s : State, exec .wai s = .next { s with run := .waiting } ∧
    exec .stp s = .next { s with run := .stopped }) ∧
  (∀ s : State, s.run = .waiting → s.boundary .wai =
    if s.nmiPending = true ∨ s.irqLines ≠ 0 then
      State.interruptCheck { s.spendIdle .wai with run := .running }
    else s.spendIdle .wai) ∧
  (∀ s : State, s.run = .stopped → s.boundary .stp = s.spendIdle .stp) ∧
  (∀ s : State, s.run = .waiting → s.nmiPending = false → s.irqLines = 0 →
    step s = .next (State.idle { s with trace := [] })) ∧
  (∀ s : State, s.run = .waiting → s.nmiPending = false → s.irqLines ≠ 0 → s.flagI = true →
    step s = .next { s with run := .running, trace := [] }) ∧
  (∀ s : State, s.run = .waiting → s.nmiPending = false → s.irqLines ≠ 0 → s.flagI = false →
    step s = .next (State.enter { s with run := .running, trace := [] } .hardware
      (if s.e then 0xFFFE else 0xFFEE))) ∧
  (∀ s : State, s.run = .waiting → s.nmiPending = true →
    step s = .next (State.enter { s with run := .running, trace := [], nmiPending := false } .hardware
      (if s.e then 0xFFFA else 0xFFEA))) ∧
  ∀ s : State, s.run = .stopped → step s = .next (State.idle { s with trace := [] })

/-- R273, R288: a stopped core stays stopped however many steps are called: only the cycle count and what the line
drivers record move, and nothing is read or written. -/
def Obligations.StoppedUntilReset : Prop :=
  (∀ (n : Nat) (s : State), s.run = .stopped →
    ∃ u, core.run n s = .next u ∧ u = { s with
      cycles := s.cycles + n
      env := s.env.drop n
      nmiPending := (firstCalls s.env n).foldl LineCall.onNmi s.nmiPending
      irqLines := (firstCalls s.env n).foldl LineCall.onIrq s.irqLines
      trace := if n = 0 then s.trace else [] }) ∧
  ∀ s : State, s.resetCore.run = .running

/-- R284, R285: the interrupt check, with the vectors of both modes: NMI first and not maskable, then an asserted
line when `P.I = 0`, else nothing. -/
def Obligations.InterruptCheckTakesOne : Prop :=
  ∀ s : State,
    (s.nmiPending = true → s.interruptCheck =
      State.enter { s with nmiPending := false } .hardware (if s.e then 0xFFFA else 0xFFEA)) ∧
    (s.nmiPending = false → s.irqLines ≠ 0 → s.flagI = false →
      s.interruptCheck = s.enter .hardware (if s.e then 0xFFFE else 0xFFEE)) ∧
    (s.nmiPending = false → s.irqLines = 0 ∨ s.flagI = true → s.interruptCheck = s)

/-- R286: `Enter`: what it pushes, in order, and what it leaves; the vector is read after the pushes. -/
def Obligations.EnterSavesAndVectors : Prop :=
  ∀ (s : State) (c : EntryCause) (v : Word), s.Inv →
    let a0 : Addr := 0x00#8 ++ s.sp
    let a1 : Addr := 0x00#8 ++ s.down 1
    let a2 : Addr := 0x00#8 ++ s.down 2
    let a3 : Addr := 0x00#8 ++ s.down 3
    let frame : List (Addr × Byte) :=
      if s.e then [(a0, hi s.pc), (a1, lo s.pc), (a2, s.p)]
      else [(a0, s.k), (a1, hi s.pc), (a2, lo s.pc), (a3, s.p)]
    let saved : State := { s.accessed (frame.map fun x => .write .data x.1 x.2) with
      sp := if s.e then s.down 3 else s.down 4
      p := (s.p ||| 0x04) &&& ~~~0x08
      k := 0x00 }
    let v0 : Addr := 0x00#8 ++ v
    let v1 : Addr := 0x00#8 ++ (v + 1)
    s.enter c v = { saved.accessed [.read .data v0 (saved.answer 0 v0),
        .read .data v1 (saved.answer 1 v1)] with
      pc := saved.answer 1 v1 ++ saved.answer 0 v0 } ∧
    (∀ x ∈ frame, Memory.read (s.enter c v).mem x.1.toNat = x.2) ∧
    s.SameOutside (s.enter c v) (frame.map Prod.fst)

/-- R270, R271: `BRK` and `COP` enter their handler, in each mode through its vector, with the `PC` after the
signature byte, which is ignored. -/
def Obligations.BrkAndCopEnter : Prop :=
  OpcodesAre [0x00, 0x02] (fun o => [.brk o.b1, .cop o.b1]) ∧
  (∀ (s : State) (sig : Byte),
    exec (.brk sig) s = .next (s.enter .software (if s.e then 0xFFFE else 0xFFE6)) ∧
    exec (.cop sig) s = .next (s.enter .software (if s.e then 0xFFF4 else 0xFFE4))) ∧
  ∀ (s : State) (v : Word), s.Inv →
    let t := s.enter .software v
    t.flagI = true ∧ t.flagD = false ∧ t.k = 0x00 ∧ t.e = s.e ∧ t.flagM = s.flagM ∧
    t.flagX = s.flagX ∧
    Memory.read t.mem (if s.e then s.down 2 else s.down 3).toNat = s.p ∧
    (s.e = true → s.p.getLsbD 4 = true)

/-- R289 (an inference from R257 and R286): `RTI` right after an entry of the same mode undoes it, where the bus
answers from memory; only `K` is left 0 in emulation mode, in which neither saves it. -/
def Obligations.RtiUndoesEnter : Prop :=
  ∀ (s : State) (c : EntryCause) (v : Word), s.Inv → s.env = [] →
    ∃ u, exec .rti (s.enter c v) = .next u ∧
      u = { s with
        k := if s.e then 0x00 else s.k
        mem := (s.enter c v).mem
        cycles := u.cycles
        trace := u.trace }

/-- R281, R282: the line interface. `assertNmi` is idempotent; each source is set and cleared alone; an id outside
the sources is refused. A call made during a bus access or an idle cycle (R283) is one of these three: what
`LineCall.onNmi` and `LineCall.onIrq` make of the two line fields is what the call between steps does. -/
def Obligations.LineInterface : Prop :=
  (∀ s : State, assertNmi s = { s with nmiPending := true } ∧ assertNmi (assertNmi s) = assertNmi s) ∧
  (∀ (n : Nat) (s : State), n < Config.irqSources →
    (∃ t, assertIrq n s = .next t ∧ t = { s with irqLines := t.irqLines } ∧
      ∀ j, t.irqLines.testBit j = (s.irqLines.testBit j || decide (j = n))) ∧
    (∃ t, clearIrq n s = .next t ∧ t = { s with irqLines := t.irqLines } ∧
      ∀ j, t.irqLines.testBit j = (s.irqLines.testBit j && decide (j ≠ n))) ∧
    isIrqAsserted n s = .next (s.irqLines.testBit n)) ∧
  (∀ (n : Nat) (s : State), Config.irqSources ≤ n →
    assertIrq n s = .refused (.irqSourceOutOfRange n) ∧
    clearIrq n s = .refused (.irqSourceOutOfRange n) ∧
    isIrqAsserted n s = .refused (.irqSourceOutOfRange n)) ∧
  (∀ s : State, s.irqRequested = decide (s.irqLines ≠ 0)) ∧
  ∀ s : State,
    let during := fun c : LineCall =>
      ({ s with
        nmiPending := LineCall.onNmi s.nmiPending c
        irqLines := LineCall.onIrq s.irqLines c } : State)
    during .assertNmi = assertNmi s ∧
    ∀ n : Fin Config.irqSources,
      assertIrq n.val s = .next (during (.assertIrq n)) ∧
      clearIrq n.val s = .next (during (.clearIrq n))
end

