-- ==== Sys2Proof/Laws/Memory.lean ====
section
/-! SUPPORT. Every memory operation keeps the canonical form. -/

namespace Sys2Proof.Machine

/-- A list in canonical form from `m` on is in canonical form from any lower bound on. -/
theorem Memory.wfFrom_mono {n m : Nat} (h : n ≤ m) :
    ∀ {l : List Host.Cell}, Memory.wfFrom m l = true → Memory.wfFrom n l = true
  | [], _ => rfl
  | (a, v) :: rest, hl => by
    simp only [Memory.wfFrom, Bool.and_eq_true, decide_eq_true_eq] at hl ⊢
    exact ⟨⟨⟨le_trans h hl.1.1.1, hl.1.1.2⟩, hl.1.2⟩, hl.2⟩

/-- Putting an entry in front keeps the canonical form. -/
theorem Memory.wfFrom_put {n a : Nat} {v : Byte} {l : List Host.Cell} (hn : n ≤ a) (ha : a < 2 ^ 24)
    (hl : Memory.wfFrom (a + 1) l = true) : Memory.wfFrom n (Memory.put a v l) = true := by
  unfold Memory.put
  split
  · exact Memory.wfFrom_mono (by omega) hl
  · rename_i hv
    simp only [Memory.wfFrom, Bool.and_eq_true, decide_eq_true_eq]
    exact ⟨⟨⟨hn, ha⟩, hv⟩, hl⟩

/-- A write keeps the canonical form. -/
theorem Memory.wfFrom_write {a : Nat} {v : Byte} (ha : a < 2 ^ 24) :
    ∀ {n : Nat} {l : List Host.Cell}, n ≤ a → Memory.wfFrom n l = true →
      Memory.wfFrom n (Memory.write l a v) = true
  | n, [], hn, _ => Memory.wfFrom_put hn ha rfl
  | n, (b, w) :: rest, hn, hl => by
    have hl' := hl
    simp only [Memory.wfFrom, Bool.and_eq_true, decide_eq_true_eq] at hl
    simp only [Memory.write]
    split
    · rename_i hlt
      refine Memory.wfFrom_put hn ha ?_
      simp only [Memory.wfFrom, Bool.and_eq_true, decide_eq_true_eq]
      exact ⟨⟨⟨by omega, hl.1.1.2⟩, hl.1.2⟩, hl.2⟩
    · split
      · rename_i _ heq
        exact Memory.wfFrom_put hn ha (heq ▸ hl.2)
      · simp only [Memory.wfFrom, Bool.and_eq_true, decide_eq_true_eq]
        exact ⟨hl.1, Memory.wfFrom_write ha (by omega) hl.2⟩

/-- A write at a 24-bit address keeps the canonical form. -/
theorem Memory.wf_write {l : List Host.Cell} (a : Addr) (v : Byte) (h : Memory.wf l = true) :
    Memory.wf (Memory.write l a.toNat v) = true :=
  Memory.wfFrom_write a.isLt (Nat.zero_le _) h

/-- Placing bytes keeps the canonical form. -/
theorem placeBytes_wf (k : Byte) :
    ∀ (bs : List Byte) (o : Word) {l : List Host.Cell}, Memory.wf l = true →
      Memory.wf (placeBytes l k o bs) = true
  | [], _, _, h => h
  | _ :: rest, o, _, h => placeBytes_wf k rest (o + 1) (Memory.wf_write _ _ h)

/-- The memory of the reset state is in canonical form. -/
theorem reset_mem_wf : Memory.wf State.reset.mem = true := rfl

end Sys2Proof.Machine
end

