-- ==== Sys2Proof/Laws/State.lean ====
section
/-! SUPPORT. One lemma per field per update of the state, each true by unfolding the update once. -/

namespace Sys2Proof.Machine

/-! ### `s.setA w v` -/

@[simp] theorem State.setA_a (s : State) (w : Width) (v : Word) :
    (s.setA w v).a = (match w with | .w8 => word (hi s.a) (lo v) | .w16 => v) := rfl
@[simp] theorem State.setA_x (s : State) (w : Width) (v : Word) : (s.setA w v).x = s.x := rfl
@[simp] theorem State.setA_y (s : State) (w : Width) (v : Word) : (s.setA w v).y = s.y := rfl
@[simp] theorem State.setA_sp (s : State) (w : Width) (v : Word) : (s.setA w v).sp = s.sp := rfl
@[simp] theorem State.setA_d (s : State) (w : Width) (v : Word) : (s.setA w v).d = s.d := rfl
@[simp] theorem State.setA_dbr (s : State) (w : Width) (v : Word) : (s.setA w v).dbr = s.dbr := rfl
@[simp] theorem State.setA_k (s : State) (w : Width) (v : Word) : (s.setA w v).k = s.k := rfl
@[simp] theorem State.setA_pc (s : State) (w : Width) (v : Word) : (s.setA w v).pc = s.pc := rfl
@[simp] theorem State.setA_p (s : State) (w : Width) (v : Word) : (s.setA w v).p = s.p := rfl
@[simp] theorem State.setA_e (s : State) (w : Width) (v : Word) : (s.setA w v).e = s.e := rfl
@[simp] theorem State.setA_cycles (s : State) (w : Width) (v : Word) :
    (s.setA w v).cycles = s.cycles := rfl
@[simp] theorem State.setA_irqLines (s : State) (w : Width) (v : Word) :
    (s.setA w v).irqLines = s.irqLines := rfl
@[simp] theorem State.setA_nmiPending (s : State) (w : Width) (v : Word) :
    (s.setA w v).nmiPending = s.nmiPending := rfl
@[simp] theorem State.setA_run (s : State) (w : Width) (v : Word) : (s.setA w v).run = s.run := rfl
@[simp] theorem State.setA_mem (s : State) (w : Width) (v : Word) : (s.setA w v).mem = s.mem := rfl
@[simp] theorem State.setA_env (s : State) (w : Width) (v : Word) : (s.setA w v).env = s.env := rfl
@[simp] theorem State.setA_trace (s : State) (w : Width) (v : Word) :
    (s.setA w v).trace = s.trace := rfl

/-! ### `s.setX v` -/

@[simp] theorem State.setX_a (s : State) (v : Word) : (s.setX v).a = s.a := rfl
@[simp] theorem State.setX_x (s : State) (v : Word) : (s.setX v).x = narrowIndex s.p v := rfl
@[simp] theorem State.setX_y (s : State) (v : Word) : (s.setX v).y = s.y := rfl
@[simp] theorem State.setX_sp (s : State) (v : Word) : (s.setX v).sp = s.sp := rfl
@[simp] theorem State.setX_d (s : State) (v : Word) : (s.setX v).d = s.d := rfl
@[simp] theorem State.setX_dbr (s : State) (v : Word) : (s.setX v).dbr = s.dbr := rfl
@[simp] theorem State.setX_k (s : State) (v : Word) : (s.setX v).k = s.k := rfl
@[simp] theorem State.setX_pc (s : State) (v : Word) : (s.setX v).pc = s.pc := rfl
@[simp] theorem State.setX_p (s : State) (v : Word) : (s.setX v).p = s.p := rfl
@[simp] theorem State.setX_e (s : State) (v : Word) : (s.setX v).e = s.e := rfl
@[simp] theorem State.setX_cycles (s : State) (v : Word) : (s.setX v).cycles = s.cycles := rfl
@[simp] theorem State.setX_irqLines (s : State) (v : Word) : (s.setX v).irqLines = s.irqLines := rfl
@[simp] theorem State.setX_nmiPending (s : State) (v : Word) :
    (s.setX v).nmiPending = s.nmiPending := rfl
@[simp] theorem State.setX_run (s : State) (v : Word) : (s.setX v).run = s.run := rfl
@[simp] theorem State.setX_mem (s : State) (v : Word) : (s.setX v).mem = s.mem := rfl
@[simp] theorem State.setX_env (s : State) (v : Word) : (s.setX v).env = s.env := rfl
@[simp] theorem State.setX_trace (s : State) (v : Word) : (s.setX v).trace = s.trace := rfl

/-! ### `s.setY v` -/

@[simp] theorem State.setY_a (s : State) (v : Word) : (s.setY v).a = s.a := rfl
@[simp] theorem State.setY_x (s : State) (v : Word) : (s.setY v).x = s.x := rfl
@[simp] theorem State.setY_y (s : State) (v : Word) : (s.setY v).y = narrowIndex s.p v := rfl
@[simp] theorem State.setY_sp (s : State) (v : Word) : (s.setY v).sp = s.sp := rfl
@[simp] theorem State.setY_d (s : State) (v : Word) : (s.setY v).d = s.d := rfl
@[simp] theorem State.setY_dbr (s : State) (v : Word) : (s.setY v).dbr = s.dbr := rfl
@[simp] theorem State.setY_k (s : State) (v : Word) : (s.setY v).k = s.k := rfl
@[simp] theorem State.setY_pc (s : State) (v : Word) : (s.setY v).pc = s.pc := rfl
@[simp] theorem State.setY_p (s : State) (v : Word) : (s.setY v).p = s.p := rfl
@[simp] theorem State.setY_e (s : State) (v : Word) : (s.setY v).e = s.e := rfl
@[simp] theorem State.setY_cycles (s : State) (v : Word) : (s.setY v).cycles = s.cycles := rfl
@[simp] theorem State.setY_irqLines (s : State) (v : Word) : (s.setY v).irqLines = s.irqLines := rfl
@[simp] theorem State.setY_nmiPending (s : State) (v : Word) :
    (s.setY v).nmiPending = s.nmiPending := rfl
@[simp] theorem State.setY_run (s : State) (v : Word) : (s.setY v).run = s.run := rfl
@[simp] theorem State.setY_mem (s : State) (v : Word) : (s.setY v).mem = s.mem := rfl
@[simp] theorem State.setY_env (s : State) (v : Word) : (s.setY v).env = s.env := rfl
@[simp] theorem State.setY_trace (s : State) (v : Word) : (s.setY v).trace = s.trace := rfl

/-! ### `s.setSP v` -/

@[simp] theorem State.setSP_a (s : State) (v : Word) : (s.setSP v).a = s.a := rfl
@[simp] theorem State.setSP_x (s : State) (v : Word) : (s.setSP v).x = s.x := rfl
@[simp] theorem State.setSP_y (s : State) (v : Word) : (s.setSP v).y = s.y := rfl
@[simp] theorem State.setSP_sp (s : State) (v : Word) : (s.setSP v).sp = clampStack s.e v := rfl
@[simp] theorem State.setSP_d (s : State) (v : Word) : (s.setSP v).d = s.d := rfl
@[simp] theorem State.setSP_dbr (s : State) (v : Word) : (s.setSP v).dbr = s.dbr := rfl
@[simp] theorem State.setSP_k (s : State) (v : Word) : (s.setSP v).k = s.k := rfl
@[simp] theorem State.setSP_pc (s : State) (v : Word) : (s.setSP v).pc = s.pc := rfl
@[simp] theorem State.setSP_p (s : State) (v : Word) : (s.setSP v).p = s.p := rfl
@[simp] theorem State.setSP_e (s : State) (v : Word) : (s.setSP v).e = s.e := rfl
@[simp] theorem State.setSP_cycles (s : State) (v : Word) : (s.setSP v).cycles = s.cycles := rfl
@[simp] theorem State.setSP_irqLines (s : State) (v : Word) :
    (s.setSP v).irqLines = s.irqLines := rfl
@[simp] theorem State.setSP_nmiPending (s : State) (v : Word) :
    (s.setSP v).nmiPending = s.nmiPending := rfl
@[simp] theorem State.setSP_run (s : State) (v : Word) : (s.setSP v).run = s.run := rfl
@[simp] theorem State.setSP_mem (s : State) (v : Word) : (s.setSP v).mem = s.mem := rfl
@[simp] theorem State.setSP_env (s : State) (v : Word) : (s.setSP v).env = s.env := rfl
@[simp] theorem State.setSP_trace (s : State) (v : Word) : (s.setSP v).trace = s.trace := rfl

/-! ### `s.setP v` -/

@[simp] theorem State.setP_a (s : State) (v : Byte) : (s.setP v).a = s.a := rfl
@[simp] theorem State.setP_x (s : State) (v : Byte) :
    (s.setP v).x = narrowIndex (forceMX s.e v) s.x := rfl
@[simp] theorem State.setP_y (s : State) (v : Byte) :
    (s.setP v).y = narrowIndex (forceMX s.e v) s.y := rfl
@[simp] theorem State.setP_sp (s : State) (v : Byte) : (s.setP v).sp = s.sp := rfl
@[simp] theorem State.setP_d (s : State) (v : Byte) : (s.setP v).d = s.d := rfl
@[simp] theorem State.setP_dbr (s : State) (v : Byte) : (s.setP v).dbr = s.dbr := rfl
@[simp] theorem State.setP_k (s : State) (v : Byte) : (s.setP v).k = s.k := rfl
@[simp] theorem State.setP_pc (s : State) (v : Byte) : (s.setP v).pc = s.pc := rfl
@[simp] theorem State.setP_p (s : State) (v : Byte) : (s.setP v).p = forceMX s.e v := rfl
@[simp] theorem State.setP_e (s : State) (v : Byte) : (s.setP v).e = s.e := rfl
@[simp] theorem State.setP_cycles (s : State) (v : Byte) : (s.setP v).cycles = s.cycles := rfl
@[simp] theorem State.setP_irqLines (s : State) (v : Byte) : (s.setP v).irqLines = s.irqLines := rfl
@[simp] theorem State.setP_nmiPending (s : State) (v : Byte) :
    (s.setP v).nmiPending = s.nmiPending := rfl
@[simp] theorem State.setP_run (s : State) (v : Byte) : (s.setP v).run = s.run := rfl
@[simp] theorem State.setP_mem (s : State) (v : Byte) : (s.setP v).mem = s.mem := rfl
@[simp] theorem State.setP_env (s : State) (v : Byte) : (s.setP v).env = s.env := rfl
@[simp] theorem State.setP_trace (s : State) (v : Byte) : (s.setP v).trace = s.trace := rfl

/-! ### `s.setE b` -/

@[simp] theorem State.setE_a (s : State) (b : Bool) : (s.setE b).a = s.a := rfl
@[simp] theorem State.setE_x (s : State) (b : Bool) :
    (s.setE b).x = (if b then narrowIndex (forceMX b s.p) s.x else s.x) := rfl
@[simp] theorem State.setE_y (s : State) (b : Bool) :
    (s.setE b).y = (if b then narrowIndex (forceMX b s.p) s.y else s.y) := rfl
@[simp] theorem State.setE_sp (s : State) (b : Bool) : (s.setE b).sp = clampStack b s.sp := rfl
@[simp] theorem State.setE_d (s : State) (b : Bool) : (s.setE b).d = s.d := rfl
@[simp] theorem State.setE_dbr (s : State) (b : Bool) : (s.setE b).dbr = s.dbr := rfl
@[simp] theorem State.setE_k (s : State) (b : Bool) : (s.setE b).k = s.k := rfl
@[simp] theorem State.setE_pc (s : State) (b : Bool) : (s.setE b).pc = s.pc := rfl
@[simp] theorem State.setE_p (s : State) (b : Bool) : (s.setE b).p = forceMX b s.p := rfl
@[simp] theorem State.setE_e (s : State) (b : Bool) : (s.setE b).e = b := rfl
@[simp] theorem State.setE_cycles (s : State) (b : Bool) : (s.setE b).cycles = s.cycles := rfl
@[simp] theorem State.setE_irqLines (s : State) (b : Bool) : (s.setE b).irqLines = s.irqLines := rfl
@[simp] theorem State.setE_nmiPending (s : State) (b : Bool) :
    (s.setE b).nmiPending = s.nmiPending := rfl
@[simp] theorem State.setE_run (s : State) (b : Bool) : (s.setE b).run = s.run := rfl
@[simp] theorem State.setE_mem (s : State) (b : Bool) : (s.setE b).mem = s.mem := rfl
@[simp] theorem State.setE_env (s : State) (b : Bool) : (s.setE b).env = s.env := rfl
@[simp] theorem State.setE_trace (s : State) (b : Bool) : (s.setE b).trace = s.trace := rfl

/-! ### `s.setFlag m b` -/

@[simp] theorem State.setFlag_a (s : State) (m : Byte) (b : Bool) : (s.setFlag m b).a = s.a := rfl
@[simp] theorem State.setFlag_x (s : State) (m : Byte) (b : Bool) :
    (s.setFlag m b).x = narrowIndex (forceMX s.e (withMask s.p m b)) s.x := rfl
@[simp] theorem State.setFlag_y (s : State) (m : Byte) (b : Bool) :
    (s.setFlag m b).y = narrowIndex (forceMX s.e (withMask s.p m b)) s.y := rfl
@[simp] theorem State.setFlag_sp (s : State) (m : Byte) (b : Bool) :
    (s.setFlag m b).sp = s.sp := rfl
@[simp] theorem State.setFlag_d (s : State) (m : Byte) (b : Bool) : (s.setFlag m b).d = s.d := rfl
@[simp] theorem State.setFlag_dbr (s : State) (m : Byte) (b : Bool) :
    (s.setFlag m b).dbr = s.dbr := rfl
@[simp] theorem State.setFlag_k (s : State) (m : Byte) (b : Bool) : (s.setFlag m b).k = s.k := rfl
@[simp] theorem State.setFlag_pc (s : State) (m : Byte) (b : Bool) :
    (s.setFlag m b).pc = s.pc := rfl
@[simp] theorem State.setFlag_p (s : State) (m : Byte) (b : Bool) :
    (s.setFlag m b).p = forceMX s.e (withMask s.p m b) := rfl
@[simp] theorem State.setFlag_e (s : State) (m : Byte) (b : Bool) : (s.setFlag m b).e = s.e := rfl
@[simp] theorem State.setFlag_cycles (s : State) (m : Byte) (b : Bool) :
    (s.setFlag m b).cycles = s.cycles := rfl
@[simp] theorem State.setFlag_irqLines (s : State) (m : Byte) (b : Bool) :
    (s.setFlag m b).irqLines = s.irqLines := rfl
@[simp] theorem State.setFlag_nmiPending (s : State) (m : Byte) (b : Bool) :
    (s.setFlag m b).nmiPending = s.nmiPending := rfl
@[simp] theorem State.setFlag_run (s : State) (m : Byte) (b : Bool) :
    (s.setFlag m b).run = s.run := rfl
@[simp] theorem State.setFlag_mem (s : State) (m : Byte) (b : Bool) :
    (s.setFlag m b).mem = s.mem := rfl
@[simp] theorem State.setFlag_env (s : State) (m : Byte) (b : Bool) :
    (s.setFlag m b).env = s.env := rfl
@[simp] theorem State.setFlag_trace (s : State) (m : Byte) (b : Bool) :
    (s.setFlag m b).trace = s.trace := rfl

/-! ### `s.setNZ w v` -/

@[simp] theorem State.setNZ_a (s : State) (w : Width) (v : Word) : (s.setNZ w v).a = s.a := rfl
@[simp] theorem State.setNZ_x (s : State) (w : Width) (v : Word) :
    (s.setNZ w v).x = ((s.setFlag maskZ (isZero w v)).setFlag maskN (msb w v)).x := rfl
@[simp] theorem State.setNZ_y (s : State) (w : Width) (v : Word) :
    (s.setNZ w v).y = ((s.setFlag maskZ (isZero w v)).setFlag maskN (msb w v)).y := rfl
@[simp] theorem State.setNZ_sp (s : State) (w : Width) (v : Word) : (s.setNZ w v).sp = s.sp := rfl
@[simp] theorem State.setNZ_d (s : State) (w : Width) (v : Word) : (s.setNZ w v).d = s.d := rfl
@[simp] theorem State.setNZ_dbr (s : State) (w : Width) (v : Word) :
    (s.setNZ w v).dbr = s.dbr := rfl
@[simp] theorem State.setNZ_k (s : State) (w : Width) (v : Word) : (s.setNZ w v).k = s.k := rfl
@[simp] theorem State.setNZ_pc (s : State) (w : Width) (v : Word) : (s.setNZ w v).pc = s.pc := rfl
@[simp] theorem State.setNZ_p (s : State) (w : Width) (v : Word) :
    (s.setNZ w v).p = ((s.setFlag maskZ (isZero w v)).setFlag maskN (msb w v)).p := rfl
@[simp] theorem State.setNZ_e (s : State) (w : Width) (v : Word) : (s.setNZ w v).e = s.e := rfl
@[simp] theorem State.setNZ_cycles (s : State) (w : Width) (v : Word) :
    (s.setNZ w v).cycles = s.cycles := rfl
@[simp] theorem State.setNZ_irqLines (s : State) (w : Width) (v : Word) :
    (s.setNZ w v).irqLines = s.irqLines := rfl
@[simp] theorem State.setNZ_nmiPending (s : State) (w : Width) (v : Word) :
    (s.setNZ w v).nmiPending = s.nmiPending := rfl
@[simp] theorem State.setNZ_run (s : State) (w : Width) (v : Word) :
    (s.setNZ w v).run = s.run := rfl
@[simp] theorem State.setNZ_mem (s : State) (w : Width) (v : Word) :
    (s.setNZ w v).mem = s.mem := rfl
@[simp] theorem State.setNZ_env (s : State) (w : Width) (v : Word) :
    (s.setNZ w v).env = s.env := rfl
@[simp] theorem State.setNZ_trace (s : State) (w : Width) (v : Word) :
    (s.setNZ w v).trace = s.trace := rfl

/-! ### `s.idle` -/

@[simp] theorem State.idle_a (s : State) : s.idle.a = s.a := rfl
@[simp] theorem State.idle_x (s : State) : s.idle.x = s.x := rfl
@[simp] theorem State.idle_y (s : State) : s.idle.y = s.y := rfl
@[simp] theorem State.idle_sp (s : State) : s.idle.sp = s.sp := rfl
@[simp] theorem State.idle_d (s : State) : s.idle.d = s.d := rfl
@[simp] theorem State.idle_dbr (s : State) : s.idle.dbr = s.dbr := rfl
@[simp] theorem State.idle_k (s : State) : s.idle.k = s.k := rfl
@[simp] theorem State.idle_pc (s : State) : s.idle.pc = s.pc := rfl
@[simp] theorem State.idle_p (s : State) : s.idle.p = s.p := rfl
@[simp] theorem State.idle_e (s : State) : s.idle.e = s.e := rfl
@[simp] theorem State.idle_cycles (s : State) : s.idle.cycles = s.cycles + 1 := rfl
@[simp] theorem State.idle_irqLines (s : State) :
    s.idle.irqLines = (nextCalls s.env).foldl LineCall.onIrq s.irqLines := rfl
@[simp] theorem State.idle_nmiPending (s : State) :
    s.idle.nmiPending = (nextCalls s.env).foldl LineCall.onNmi s.nmiPending := rfl
@[simp] theorem State.idle_run (s : State) : s.idle.run = s.run := rfl
@[simp] theorem State.idle_mem (s : State) : s.idle.mem = s.mem := rfl
@[simp] theorem State.idle_env (s : State) : s.idle.env = s.env.tail := rfl
@[simp] theorem State.idle_trace (s : State) : s.idle.trace = s.trace := rfl

/-! ### `(s.read8 c b).2` -/

@[simp] theorem State.read8_snd_a (s : State) (c : AccessKind) (b : Addr) :
    (s.read8 c b).2.a = s.a := rfl
@[simp] theorem State.read8_snd_x (s : State) (c : AccessKind) (b : Addr) :
    (s.read8 c b).2.x = s.x := rfl
@[simp] theorem State.read8_snd_y (s : State) (c : AccessKind) (b : Addr) :
    (s.read8 c b).2.y = s.y := rfl
@[simp] theorem State.read8_snd_sp (s : State) (c : AccessKind) (b : Addr) :
    (s.read8 c b).2.sp = s.sp := rfl
@[simp] theorem State.read8_snd_d (s : State) (c : AccessKind) (b : Addr) :
    (s.read8 c b).2.d = s.d := rfl
@[simp] theorem State.read8_snd_dbr (s : State) (c : AccessKind) (b : Addr) :
    (s.read8 c b).2.dbr = s.dbr := rfl
@[simp] theorem State.read8_snd_k (s : State) (c : AccessKind) (b : Addr) :
    (s.read8 c b).2.k = s.k := rfl
@[simp] theorem State.read8_snd_pc (s : State) (c : AccessKind) (b : Addr) :
    (s.read8 c b).2.pc = s.pc := rfl
@[simp] theorem State.read8_snd_p (s : State) (c : AccessKind) (b : Addr) :
    (s.read8 c b).2.p = s.p := rfl
@[simp] theorem State.read8_snd_e (s : State) (c : AccessKind) (b : Addr) :
    (s.read8 c b).2.e = s.e := rfl
@[simp] theorem State.read8_snd_cycles (s : State) (c : AccessKind) (b : Addr) :
    (s.read8 c b).2.cycles = s.cycles + 1 := rfl
@[simp] theorem State.read8_snd_irqLines (s : State) (c : AccessKind) (b : Addr) :
    (s.read8 c b).2.irqLines = s.idle.irqLines := rfl
@[simp] theorem State.read8_snd_nmiPending (s : State) (c : AccessKind) (b : Addr) :
    (s.read8 c b).2.nmiPending = s.idle.nmiPending := rfl
@[simp] theorem State.read8_snd_run (s : State) (c : AccessKind) (b : Addr) :
    (s.read8 c b).2.run = s.run := rfl
@[simp] theorem State.read8_snd_mem (s : State) (c : AccessKind) (b : Addr) :
    (s.read8 c b).2.mem = s.mem := rfl
@[simp] theorem State.read8_snd_env (s : State) (c : AccessKind) (b : Addr) :
    (s.read8 c b).2.env = s.env.tail := rfl
@[simp] theorem State.read8_snd_trace (s : State) (c : AccessKind) (b : Addr) :
    (s.read8 c b).2.trace = s.trace ++ [.read c b (s.busByte b)] := rfl

/-! ### `s.write8 c b v` -/

@[simp] theorem State.write8_a (s : State) (c : AccessKind) (b : Addr) (v : Byte) :
    (s.write8 c b v).a = s.a := rfl
@[simp] theorem State.write8_x (s : State) (c : AccessKind) (b : Addr) (v : Byte) :
    (s.write8 c b v).x = s.x := rfl
@[simp] theorem State.write8_y (s : State) (c : AccessKind) (b : Addr) (v : Byte) :
    (s.write8 c b v).y = s.y := rfl
@[simp] theorem State.write8_sp (s : State) (c : AccessKind) (b : Addr) (v : Byte) :
    (s.write8 c b v).sp = s.sp := rfl
@[simp] theorem State.write8_d (s : State) (c : AccessKind) (b : Addr) (v : Byte) :
    (s.write8 c b v).d = s.d := rfl
@[simp] theorem State.write8_dbr (s : State) (c : AccessKind) (b : Addr) (v : Byte) :
    (s.write8 c b v).dbr = s.dbr := rfl
@[simp] theorem State.write8_k (s : State) (c : AccessKind) (b : Addr) (v : Byte) :
    (s.write8 c b v).k = s.k := rfl
@[simp] theorem State.write8_pc (s : State) (c : AccessKind) (b : Addr) (v : Byte) :
    (s.write8 c b v).pc = s.pc := rfl
@[simp] theorem State.write8_p (s : State) (c : AccessKind) (b : Addr) (v : Byte) :
    (s.write8 c b v).p = s.p := rfl
@[simp] theorem State.write8_e (s : State) (c : AccessKind) (b : Addr) (v : Byte) :
    (s.write8 c b v).e = s.e := rfl
@[simp] theorem State.write8_cycles (s : State) (c : AccessKind) (b : Addr) (v : Byte) :
    (s.write8 c b v).cycles = s.cycles + 1 := rfl
@[simp] theorem State.write8_irqLines (s : State) (c : AccessKind) (b : Addr) (v : Byte) :
    (s.write8 c b v).irqLines = s.idle.irqLines := rfl
@[simp] theorem State.write8_nmiPending (s : State) (c : AccessKind) (b : Addr) (v : Byte) :
    (s.write8 c b v).nmiPending = s.idle.nmiPending := rfl
@[simp] theorem State.write8_run (s : State) (c : AccessKind) (b : Addr) (v : Byte) :
    (s.write8 c b v).run = s.run := rfl
@[simp] theorem State.write8_mem (s : State) (c : AccessKind) (b : Addr) (v : Byte) :
    (s.write8 c b v).mem = Memory.write s.mem b.toNat v := rfl
@[simp] theorem State.write8_env (s : State) (c : AccessKind) (b : Addr) (v : Byte) :
    (s.write8 c b v).env = s.env.tail := rfl
@[simp] theorem State.write8_trace (s : State) (c : AccessKind) (b : Addr) (v : Byte) :
    (s.write8 c b v).trace = s.trace ++ [.write c b v] := rfl

/-! ### `s.jump t` -/

@[simp] theorem State.jump_a (s : State) (t : Word) : (s.jump t).a = s.a := rfl
@[simp] theorem State.jump_x (s : State) (t : Word) : (s.jump t).x = s.x := rfl
@[simp] theorem State.jump_y (s : State) (t : Word) : (s.jump t).y = s.y := rfl
@[simp] theorem State.jump_sp (s : State) (t : Word) : (s.jump t).sp = s.sp := rfl
@[simp] theorem State.jump_d (s : State) (t : Word) : (s.jump t).d = s.d := rfl
@[simp] theorem State.jump_dbr (s : State) (t : Word) : (s.jump t).dbr = s.dbr := rfl
@[simp] theorem State.jump_k (s : State) (t : Word) : (s.jump t).k = s.k := rfl
@[simp] theorem State.jump_pc (s : State) (t : Word) : (s.jump t).pc = t := rfl
@[simp] theorem State.jump_p (s : State) (t : Word) : (s.jump t).p = s.p := rfl
@[simp] theorem State.jump_e (s : State) (t : Word) : (s.jump t).e = s.e := rfl
@[simp] theorem State.jump_cycles (s : State) (t : Word) : (s.jump t).cycles = s.cycles := rfl
@[simp] theorem State.jump_irqLines (s : State) (t : Word) : (s.jump t).irqLines = s.irqLines := rfl
@[simp] theorem State.jump_nmiPending (s : State) (t : Word) :
    (s.jump t).nmiPending = s.nmiPending := rfl
@[simp] theorem State.jump_run (s : State) (t : Word) : (s.jump t).run = s.run := rfl
@[simp] theorem State.jump_mem (s : State) (t : Word) : (s.jump t).mem = s.mem := rfl
@[simp] theorem State.jump_env (s : State) (t : Word) : (s.jump t).env = s.env := rfl
@[simp] theorem State.jump_trace (s : State) (t : Word) : (s.jump t).trace = s.trace := rfl

/-! ### `s.jumpLong t` -/

@[simp] theorem State.jumpLong_a (s : State) (t : Addr) : (s.jumpLong t).a = s.a := rfl
@[simp] theorem State.jumpLong_x (s : State) (t : Addr) : (s.jumpLong t).x = s.x := rfl
@[simp] theorem State.jumpLong_y (s : State) (t : Addr) : (s.jumpLong t).y = s.y := rfl
@[simp] theorem State.jumpLong_sp (s : State) (t : Addr) : (s.jumpLong t).sp = s.sp := rfl
@[simp] theorem State.jumpLong_d (s : State) (t : Addr) : (s.jumpLong t).d = s.d := rfl
@[simp] theorem State.jumpLong_dbr (s : State) (t : Addr) : (s.jumpLong t).dbr = s.dbr := rfl
@[simp] theorem State.jumpLong_k (s : State) (t : Addr) : (s.jumpLong t).k = bankOf t := rfl
@[simp] theorem State.jumpLong_pc (s : State) (t : Addr) : (s.jumpLong t).pc = offsetOf t := rfl
@[simp] theorem State.jumpLong_p (s : State) (t : Addr) : (s.jumpLong t).p = s.p := rfl
@[simp] theorem State.jumpLong_e (s : State) (t : Addr) : (s.jumpLong t).e = s.e := rfl
@[simp] theorem State.jumpLong_cycles (s : State) (t : Addr) :
    (s.jumpLong t).cycles = s.cycles := rfl
@[simp] theorem State.jumpLong_irqLines (s : State) (t : Addr) :
    (s.jumpLong t).irqLines = s.irqLines := rfl
@[simp] theorem State.jumpLong_nmiPending (s : State) (t : Addr) :
    (s.jumpLong t).nmiPending = s.nmiPending := rfl
@[simp] theorem State.jumpLong_run (s : State) (t : Addr) : (s.jumpLong t).run = s.run := rfl
@[simp] theorem State.jumpLong_mem (s : State) (t : Addr) : (s.jumpLong t).mem = s.mem := rfl
@[simp] theorem State.jumpLong_env (s : State) (t : Addr) : (s.jumpLong t).env = s.env := rfl
@[simp] theorem State.jumpLong_trace (s : State) (t : Addr) : (s.jumpLong t).trace = s.trace := rfl

/-! ### `s.spendIdle i` -/

@[simp] theorem State.spendIdle_a (s : State) (i : Instr) : (s.spendIdle i).a = s.a := rfl
@[simp] theorem State.spendIdle_x (s : State) (i : Instr) : (s.spendIdle i).x = s.x := rfl
@[simp] theorem State.spendIdle_y (s : State) (i : Instr) : (s.spendIdle i).y = s.y := rfl
@[simp] theorem State.spendIdle_sp (s : State) (i : Instr) : (s.spendIdle i).sp = s.sp := rfl
@[simp] theorem State.spendIdle_d (s : State) (i : Instr) : (s.spendIdle i).d = s.d := rfl
@[simp] theorem State.spendIdle_dbr (s : State) (i : Instr) : (s.spendIdle i).dbr = s.dbr := rfl
@[simp] theorem State.spendIdle_k (s : State) (i : Instr) : (s.spendIdle i).k = s.k := rfl
@[simp] theorem State.spendIdle_pc (s : State) (i : Instr) : (s.spendIdle i).pc = s.pc := rfl
@[simp] theorem State.spendIdle_p (s : State) (i : Instr) : (s.spendIdle i).p = s.p := rfl
@[simp] theorem State.spendIdle_e (s : State) (i : Instr) : (s.spendIdle i).e = s.e := rfl
@[simp] theorem State.spendIdle_cycles (s : State) (i : Instr) :
    (s.spendIdle i).cycles = s.cycles + Config.idleCycles i s := rfl
@[simp] theorem State.spendIdle_irqLines (s : State) (i : Instr) :
    (s.spendIdle i).irqLines = s.irqLines := rfl
@[simp] theorem State.spendIdle_nmiPending (s : State) (i : Instr) :
    (s.spendIdle i).nmiPending = s.nmiPending := rfl
@[simp] theorem State.spendIdle_run (s : State) (i : Instr) : (s.spendIdle i).run = s.run := rfl
@[simp] theorem State.spendIdle_mem (s : State) (i : Instr) : (s.spendIdle i).mem = s.mem := rfl
@[simp] theorem State.spendIdle_env (s : State) (i : Instr) : (s.spendIdle i).env = s.env := rfl
@[simp] theorem State.spendIdle_trace (s : State) (i : Instr) :
    (s.spendIdle i).trace = s.trace := rfl

/-- The byte a read answers. -/
@[simp] theorem State.read8_fst (s : State) (c : AccessKind) (b : Addr) : (s.read8 c b).1 = s.busByte b := rfl

end Sys2Proof.Machine
end

