-- ==== Sys2Proof/Laws/Ops.lean ====
section
/-! SUPPORT. Once for each shared operation, what it can do. -/

namespace Sys2Proof.Machine

/-! ### Bits -/

/-- A word is its two bytes (00_scope.md R8). -/
@[simp] theorem word_hi_lo (v : Word) : word (hi v) (lo v) = v := by
  simp only [word, hi, lo]; ext i; simp; grind

@[simp] theorem lo_word (h l : Byte) : lo (word h l) = l := by
  simp only [word, lo]; ext i; simp; grind

@[simp] theorem hi_word (h l : Byte) : hi (word h l) = h := by
  simp only [word, hi]; ext i; simp; grind

/-- An address is its bank and its offset (R8). -/
@[simp] theorem addr_bank_offset (a : Addr) : addr (bankOf a) (offsetOf a) = a := by
  simp only [addr, bankOf, offsetOf]; ext i; simp; grind

@[simp] theorem bankOf_addr (b : Byte) (o : Word) : bankOf (addr b o) = b := by
  simp only [addr, bankOf]; ext i; simp; grind

@[simp] theorem offsetOf_addr (b : Byte) (o : Word) : offsetOf (addr b o) = o := by
  simp only [addr, offsetOf]; ext i; simp; grind

/-- A word as a number is its high byte times 256 and its low byte (R8). -/
theorem word_toNat (h l : Byte) : (word h l).toNat = h.toNat * 256 + l.toNat := by
  rw [word, BitVec.toNat_append, ← Nat.shiftLeft_add_eq_or_of_lt l.isLt, Nat.shiftLeft_eq]

/-- An address as a number is its bank times 65536 and its offset (R8). -/
theorem addr_toNat (b : Byte) (o : Word) : (addr b o).toNat = b.toNat * 65536 + o.toNat := by
  rw [addr, BitVec.toNat_append, ← Nat.shiftLeft_add_eq_or_of_lt o.isLt, Nat.shiftLeft_eq]

/-- The low byte is the remainder by 256 (00_scope.md R9). -/
theorem lo_toNat (v : Word) : (lo v).toNat = v.toNat % 256 := by simp [lo]

/-- The high byte is the quotient by 256 (R9). -/
theorem hi_toNat (v : Word) : (hi v).toNat = v.toNat / 256 := by
  have := v.isLt
  simp [hi, Nat.shiftRight_eq_div_pow]
  omega

/-! ### The setters under the invariants -/

/-- An index value whose high byte the invariant clears is its own truncation (10_state.md R37). -/
theorem narrowIndex_of_inv {p : Byte} {v : Word} (h : p.getLsbD 4 = true → hi v = 0) :
    narrowIndex p v = v := by
  unfold narrowIndex
  split
  · rename_i hp
    have := h hp
    conv => rhs; rw [← word_hi_lo v, this]
  · rfl

/-- Writing flags other than `M` and `X` writes only `P` in a state that meets the invariants (R34,
R37). -/
theorem setP_of_inv {s : State} (h : s.Inv) {v : Byte} (h4 : v.getLsbD 4 = s.p.getLsbD 4)
    (h5 : v.getLsbD 5 = s.p.getLsbD 5) : s.setP v = { s with p := v } := by
  have hv : forceMX s.e v = v := by
    unfold forceMX
    split
    · rename_i he
      obtain ⟨hm, hx⟩ := h.emulationFlags he
      simp only [State.flagM, State.flagX] at hm hx
      rw [hm] at h5; rw [hx] at h4
      clear hm hx he
      revert h4 h5
      revert v
      decide
    · rfl
  have hx : narrowIndex v s.x = s.x :=
    narrowIndex_of_inv fun hb => (h.indexHigh (h4.symm.trans hb)).1
  have hy : narrowIndex v s.y = s.y :=
    narrowIndex_of_inv fun hb => (h.indexHigh (h4.symm.trans hb)).2
  simp only [State.setP, hv, hx, hy]

/-! ### Bus accesses -/

/-- No access changes nothing. -/
@[simp] theorem State.accessed_nil (s : State) : s.accessed [] = s := by
  simp [State.accessed, writesOf, firstCalls]

/-- The calls of the first access are its own. -/
theorem firstCalls_one (env : List BusEvent) : firstCalls env 1 = nextCalls env := by
  cases env <;> simp [firstCalls, nextCalls]

/-- The calls of `n + m` accesses are those of `n` and then those of `m` more. -/
theorem firstCalls_add (env : List BusEvent) (n m : Nat) :
    firstCalls env (n + m) = firstCalls env n ++ firstCalls (env.drop n) m := by
  simp [firstCalls, List.take_add]

/-- Two runs of accesses are one. -/
theorem State.accessed_accessed (s : State) (l l' : List Access) :
    (s.accessed l).accessed l' = s.accessed (l ++ l') := by
  simp only [State.accessed, writesOf, List.foldl_append, List.append_assoc, List.length_append,
    List.drop_drop, firstCalls_add, Nat.add_assoc]

/-- The byte of the next access is the first answer (R51). -/
theorem State.busByte_eq (s : State) (a : Addr) : s.busByte a = s.answer 0 a := by
  cases h : s.env <;> simp [State.busByte, State.answer, nextAnswer, h]

/-- A read is one access (R51, R52, R283). -/
theorem State.read8_eq (s : State) (c : AccessKind) (a : Addr) :
    s.read8 c a = (s.answer 0 a, s.accessed [.read c a (s.answer 0 a)]) := by
  simp [State.read8, State.accessed, State.idle, State.busByte_eq, writesOf, firstCalls_one]

/-- A write is one access (R51, R52, R283). -/
theorem State.write8_eq (s : State) (c : AccessKind) (a : Addr) (v : Byte) :
    s.write8 c a v = s.accessed [.write c a v] := by
  simp [State.write8, State.accessed, State.idle, writesOf, firstCalls_one]

/-- Reads leave memory as it is. -/
theorem writesOf_reads {l : List Access} (h : l.all Access.isRead = true) (mem : List Host.Cell) :
    writesOf mem l = mem := by
  induction l generalizing mem with
  | nil => rfl
  | cons x rest ih =>
    cases x with
    | read c a v => exact ih (by simpa [Access.isRead] using h) mem
    | write c a v => simp [Access.isRead] at h

/-- After reads the answers to come are the later ones (R51). -/
theorem State.accessed_answer {s : State} {l : List Access} (h : l.all Access.isRead = true) (j : Nat)
    (a : Addr) : (s.accessed l).answer j a = s.answer (l.length + j) a := by
  simp [State.answer, State.accessed, writesOf_reads h]

/-- With no script the bus answers from memory (R51). -/
theorem State.answer_of_env_nil {s : State} (h : s.env = []) (j : Nat) (a : Addr) :
    s.answer j a = Memory.read s.mem a.toNat := by
  simp [State.answer, h]

/-- A 16-bit read is its two accesses, low byte first (R58). -/
theorem State.read16_eq (s : State) (a0 a1 : Addr) :
    s.read16 a0 a1 = (word (s.answer 1 a1) (s.answer 0 a0),
      s.accessed [.read .data a0 (s.answer 0 a0), .read .data a1 (s.answer 1 a1)]) := by
  simp [State.read16, State.read8_eq, State.accessed_accessed, State.accessed_answer, Access.isRead]

/-- A 24-bit read is its three accesses, low byte first (R58). -/
theorem State.read24_eq (s : State) (a0 a1 a2 : Addr) :
    s.read24 a0 a1 a2 = (long (s.answer 2 a2) (s.answer 1 a1) (s.answer 0 a0),
      s.accessed [.read .data a0 (s.answer 0 a0), .read .data a1 (s.answer 1 a1),
        .read .data a2 (s.answer 2 a2)]) := by
  simp [State.read24, State.read8_eq, State.accessed_accessed, State.accessed_answer, Access.isRead]

/-! ### The stack -/

/-- A push writes at `S` in bank 0 and then moves `S` down (44_stack.md R200). -/
theorem State.push8_spec (s : State) (v : Byte) :
    s.push8 v = { s.write8 .data (addr 0x00 s.sp) v with sp := clampStack s.e (s.sp - 1) } := rfl

/-- A pull moves `S` up and reads at the new `S` (R201). -/
theorem State.pull8_spec (s : State) :
    s.pull8 = ({ s with sp := clampStack s.e (s.sp + 1) }).read8 .data
      (addr 0x00 (clampStack s.e (s.sp + 1))) := rfl

/-! ### Line calls -/

/-- Setting a source below `n` keeps the bitmask below `2^n` (60_exceptions.md R282). -/
theorem irqSet_lt {lines k n : Nat} (hk : k < n) (h : lines < 2 ^ n) : irqSet lines k < 2 ^ n := by
  unfold irqSet
  refine Nat.or_lt_two_pow h ?_
  rw [Nat.one_shiftLeft]
  exact Nat.pow_lt_pow_right (by omega) hk

/-- Clearing a source below `n` keeps the bitmask below `2^n` (R282). -/
theorem irqClear_lt {lines k n : Nat} (hk : k < n) (h : lines < 2 ^ n) : irqClear lines k < 2 ^ n := by
  unfold irqClear
  split
  · refine Nat.xor_lt_two_pow h ?_
    rw [Nat.one_shiftLeft]
    exact Nat.pow_lt_pow_right (by omega) hk
  · exact h

/-- Line calls keep the bitmask below `2^IRQ_SOURCES` (R282, R283). -/
theorem onIrq_foldl_lt (calls : List LineCall) :
    ∀ {lines : Nat}, lines < 2 ^ Config.irqSources →
      calls.foldl LineCall.onIrq lines < 2 ^ Config.irqSources := by
  induction calls with
  | nil => exact id
  | cons c rest ih =>
    intro lines h
    refine ih ?_
    cases c with
    | assertNmi => exact h
    | assertIrq n => exact irqSet_lt n.isLt h
    | clearIrq n => exact irqClear_lt n.isLt h

end Sys2Proof.Machine
end

