-- ==== Sys2Proof/Laws/PerInstr.lean ====
section
/-! SUPPORT. A law of every instruction as syntax: its mnemonic has its mode exactly when the encoder gives
it an opcode, and it is one to four bytes long (30_encoding.md R70, R76). -/

namespace Sys2Proof.Laws.OpcodeAndLength

/-- The encoder gives an opcode exactly where the map has the form, and the length is 1 to 4. -/
def Statement (i : Instr) : Prop :=
  i.opcode.isSome = i.hasForm ∧ 1 ≤ i.length ∧ i.length ≤ 4

/-- The operand of a mode with an operand locator is at most three bytes (R73). -/
theorem data_bytes_le (m : DataMode) : m.bytes.length ≤ 3 := by
  cases m with
  | immM v | immX v => cases v <;> simp [DataMode.bytes, immBytes]
  | _ => simp [DataMode.bytes, wordBytes, longBytes]

/-- The operand of a mode with a 16-bit target is two bytes (R73). -/
theorem near_bytes_le (m : NearMode) : m.bytes.length ≤ 3 := by
  cases m <;> simp [NearMode.bytes, wordBytes]

/-- The operand of a mode with a 24-bit target is at most three bytes (R73). -/
theorem far_bytes_le (m : FarMode) : m.bytes.length ≤ 3 := by
  cases m <;> simp [FarMode.bytes, wordBytes, longBytes]

/-- The operand of every mode is at most three bytes (R73). -/
theorem bytes_le (m : Mode) : m.bytes.length ≤ 3 := by
  cases m with
  | data m => exact data_bytes_le m
  | near m => exact near_bytes_le m
  | far m => exact far_bytes_le m
  | _ => simp [Mode.bytes, wordBytes]

/-- The length of every instruction is 1 to 4 (R70). -/
theorem length_bounds (i : Instr) : 1 ≤ i.length ∧ i.length ≤ 4 := by
  have := bytes_le i.mode
  simp only [Instr.length]
  omega

theorem brk (sig : Byte) : Statement (.brk sig) :=
  ⟨rfl, length_bounds _⟩

theorem ora (m : DataMode) : Statement (.ora m) :=
  ⟨by cases m <;> rfl, length_bounds _⟩

theorem cop (sig : Byte) : Statement (.cop sig) :=
  ⟨rfl, length_bounds _⟩

theorem tsb (m : DataMode) : Statement (.tsb m) :=
  ⟨by cases m <;> rfl, length_bounds _⟩

theorem asl (m : DataMode) : Statement (.asl m) :=
  ⟨by cases m <;> rfl, length_bounds _⟩

theorem php : Statement .php :=
  ⟨rfl, length_bounds _⟩

theorem phd : Statement .phd :=
  ⟨rfl, length_bounds _⟩

theorem bpl (r : Byte) : Statement (.bpl r) :=
  ⟨rfl, length_bounds _⟩

theorem trb (m : DataMode) : Statement (.trb m) :=
  ⟨by cases m <;> rfl, length_bounds _⟩

theorem clc : Statement .clc :=
  ⟨rfl, length_bounds _⟩

theorem inc (m : DataMode) : Statement (.inc m) :=
  ⟨by cases m <;> rfl, length_bounds _⟩

theorem tcs : Statement .tcs :=
  ⟨rfl, length_bounds _⟩

theorem jsr (m : NearMode) : Statement (.jsr m) :=
  ⟨by cases m <;> rfl, length_bounds _⟩

theorem and (m : DataMode) : Statement (.and m) :=
  ⟨by cases m <;> rfl, length_bounds _⟩

theorem jsl (al : Addr) : Statement (.jsl al) :=
  ⟨rfl, length_bounds _⟩

theorem bit (m : DataMode) : Statement (.bit m) :=
  ⟨by cases m <;> rfl, length_bounds _⟩

theorem rol (m : DataMode) : Statement (.rol m) :=
  ⟨by cases m <;> rfl, length_bounds _⟩

theorem plp : Statement .plp :=
  ⟨rfl, length_bounds _⟩

theorem pld : Statement .pld :=
  ⟨rfl, length_bounds _⟩

theorem bmi (r : Byte) : Statement (.bmi r) :=
  ⟨rfl, length_bounds _⟩

theorem sec : Statement .sec :=
  ⟨rfl, length_bounds _⟩

theorem dec (m : DataMode) : Statement (.dec m) :=
  ⟨by cases m <;> rfl, length_bounds _⟩

theorem tsc : Statement .tsc :=
  ⟨rfl, length_bounds _⟩

theorem rti : Statement .rti :=
  ⟨rfl, length_bounds _⟩

theorem eor (m : DataMode) : Statement (.eor m) :=
  ⟨by cases m <;> rfl, length_bounds _⟩

theorem wdm (sig : Byte) : Statement (.wdm sig) :=
  ⟨rfl, length_bounds _⟩

theorem mvp (dst : Byte) (src : Byte) : Statement (.mvp dst src) :=
  ⟨rfl, length_bounds _⟩

theorem lsr (m : DataMode) : Statement (.lsr m) :=
  ⟨by cases m <;> rfl, length_bounds _⟩

theorem pha : Statement .pha :=
  ⟨rfl, length_bounds _⟩

theorem phk : Statement .phk :=
  ⟨rfl, length_bounds _⟩

theorem jmp (m : NearMode) : Statement (.jmp m) :=
  ⟨by cases m <;> rfl, length_bounds _⟩

theorem bvc (r : Byte) : Statement (.bvc r) :=
  ⟨rfl, length_bounds _⟩

theorem mvn (dst : Byte) (src : Byte) : Statement (.mvn dst src) :=
  ⟨rfl, length_bounds _⟩

theorem cli : Statement .cli :=
  ⟨rfl, length_bounds _⟩

theorem phy : Statement .phy :=
  ⟨rfl, length_bounds _⟩

theorem tcd : Statement .tcd :=
  ⟨rfl, length_bounds _⟩

theorem jml (m : FarMode) : Statement (.jml m) :=
  ⟨by cases m <;> rfl, length_bounds _⟩

theorem rts : Statement .rts :=
  ⟨rfl, length_bounds _⟩

theorem adc (m : DataMode) : Statement (.adc m) :=
  ⟨by cases m <;> rfl, length_bounds _⟩

theorem per (r : Word) : Statement (.per r) :=
  ⟨rfl, length_bounds _⟩

theorem stz (m : DataMode) : Statement (.stz m) :=
  ⟨by cases m <;> rfl, length_bounds _⟩

theorem ror (m : DataMode) : Statement (.ror m) :=
  ⟨by cases m <;> rfl, length_bounds _⟩

theorem pla : Statement .pla :=
  ⟨rfl, length_bounds _⟩

theorem rtl : Statement .rtl :=
  ⟨rfl, length_bounds _⟩

theorem bvs (r : Byte) : Statement (.bvs r) :=
  ⟨rfl, length_bounds _⟩

theorem sei : Statement .sei :=
  ⟨rfl, length_bounds _⟩

theorem ply : Statement .ply :=
  ⟨rfl, length_bounds _⟩

theorem tdc : Statement .tdc :=
  ⟨rfl, length_bounds _⟩

theorem bra (r : Byte) : Statement (.bra r) :=
  ⟨rfl, length_bounds _⟩

theorem sta (m : DataMode) : Statement (.sta m) :=
  ⟨by cases m <;> rfl, length_bounds _⟩

theorem brl (r : Word) : Statement (.brl r) :=
  ⟨rfl, length_bounds _⟩

theorem sty (m : DataMode) : Statement (.sty m) :=
  ⟨by cases m <;> rfl, length_bounds _⟩

theorem stx (m : DataMode) : Statement (.stx m) :=
  ⟨by cases m <;> rfl, length_bounds _⟩

theorem dey : Statement .dey :=
  ⟨rfl, length_bounds _⟩

theorem txa : Statement .txa :=
  ⟨rfl, length_bounds _⟩

theorem phb : Statement .phb :=
  ⟨rfl, length_bounds _⟩

theorem bcc (r : Byte) : Statement (.bcc r) :=
  ⟨rfl, length_bounds _⟩

theorem tya : Statement .tya :=
  ⟨rfl, length_bounds _⟩

theorem txs : Statement .txs :=
  ⟨rfl, length_bounds _⟩

theorem txy : Statement .txy :=
  ⟨rfl, length_bounds _⟩

theorem ldy (m : DataMode) : Statement (.ldy m) :=
  ⟨by cases m <;> rfl, length_bounds _⟩

theorem lda (m : DataMode) : Statement (.lda m) :=
  ⟨by cases m <;> rfl, length_bounds _⟩

theorem ldx (m : DataMode) : Statement (.ldx m) :=
  ⟨by cases m <;> rfl, length_bounds _⟩

theorem tay : Statement .tay :=
  ⟨rfl, length_bounds _⟩

theorem tax : Statement .tax :=
  ⟨rfl, length_bounds _⟩

theorem plb : Statement .plb :=
  ⟨rfl, length_bounds _⟩

theorem bcs (r : Byte) : Statement (.bcs r) :=
  ⟨rfl, length_bounds _⟩

theorem clv : Statement .clv :=
  ⟨rfl, length_bounds _⟩

theorem tsx : Statement .tsx :=
  ⟨rfl, length_bounds _⟩

theorem tyx : Statement .tyx :=
  ⟨rfl, length_bounds _⟩

theorem cpy (m : DataMode) : Statement (.cpy m) :=
  ⟨by cases m <;> rfl, length_bounds _⟩

theorem cmp (m : DataMode) : Statement (.cmp m) :=
  ⟨by cases m <;> rfl, length_bounds _⟩

theorem rep (mask : Byte) : Statement (.rep mask) :=
  ⟨rfl, length_bounds _⟩

theorem iny : Statement .iny :=
  ⟨rfl, length_bounds _⟩

theorem dex : Statement .dex :=
  ⟨rfl, length_bounds _⟩

theorem wai : Statement .wai :=
  ⟨rfl, length_bounds _⟩

theorem bne (r : Byte) : Statement (.bne r) :=
  ⟨rfl, length_bounds _⟩

theorem pei (d : Byte) : Statement (.pei d) :=
  ⟨rfl, length_bounds _⟩

theorem cld : Statement .cld :=
  ⟨rfl, length_bounds _⟩

theorem phx : Statement .phx :=
  ⟨rfl, length_bounds _⟩

theorem stp : Statement .stp :=
  ⟨rfl, length_bounds _⟩

theorem cpx (m : DataMode) : Statement (.cpx m) :=
  ⟨by cases m <;> rfl, length_bounds _⟩

theorem sbc (m : DataMode) : Statement (.sbc m) :=
  ⟨by cases m <;> rfl, length_bounds _⟩

theorem sep (mask : Byte) : Statement (.sep mask) :=
  ⟨rfl, length_bounds _⟩

theorem inx : Statement .inx :=
  ⟨rfl, length_bounds _⟩

theorem nop : Statement .nop :=
  ⟨rfl, length_bounds _⟩

theorem xba : Statement .xba :=
  ⟨rfl, length_bounds _⟩

theorem beq (r : Byte) : Statement (.beq r) :=
  ⟨rfl, length_bounds _⟩

theorem pea (a : Word) : Statement (.pea a) :=
  ⟨rfl, length_bounds _⟩

theorem sed : Statement .sed :=
  ⟨rfl, length_bounds _⟩

theorem plx : Statement .plx :=
  ⟨rfl, length_bounds _⟩

theorem xce : Statement .xce :=
  ⟨rfl, length_bounds _⟩

end Sys2Proof.Laws.OpcodeAndLength
end

