-- ==== Sys2Proof/Tests/Slice0.lean ====
section
/-! SUPPORT. The model's own tests: what WellFormed refuses, one decoded word per constructor, one or two
small executions per instruction from the examples of the rules, and for each statement a state and operands
that meet its hypotheses. -/

namespace Sys2Proof.Tests

open Sys2Proof Sys2Proof.Machine

/-! ### WellFormed refuses -/

/-- Every form check has a term it refuses (30_encoding.md R76: the map has no such opcode). -/
theorem test_wellformed_refuses_forms :
    [Instr.ora .acc, .tsb (.dpx 0), .asl (.absy 0), .trb (.absx 0), .inc (.immM (.byte 0)),
      .jsr (.absind 0), .and (.immX (.byte 0)), .bit (.absl 0), .rol (.sr 0), .dec (.dpind 0),
      .eor (.sig 0), .lsr (.absl 0), .adc (.pei 0), .stz (.absy 0), .ror (.dpy 0),
      .sta (.immM (.byte 0)), .sty (.dpy 0), .stx (.dpx 0), .ldy (.dpy 0), .lda (.pea 0),
      .ldx (.dpx 0), .cpy (.dpx 0), .cmp (.dpy 0), .cpx (.absx 0), .sbc (.imm8 0)].all
      (fun i => !i.hasForm) = true := by decide

/-- An immediate of the other width is refused under each setting of its flag (R74), and one of its own width
is not. -/
theorem test_wellformed_refuses_widths :
    (Instr.lda (.immM (.word 1))).wellFormed true true = false ∧
    (Instr.lda (.immM (.byte 1))).wellFormed false true = false ∧
    (Instr.ldx (.immX (.word 1))).wellFormed true true = false ∧
    (Instr.ldx (.immX (.byte 1))).wellFormed true false = false ∧
    (Instr.lda (.immM (.word 1))).wellFormed false true = true ∧
    (Instr.ldx (.immX (.byte 1))).wellFormed false true = true := by decide

/-- The decoder refuses no byte and a missing operand byte by name, and nothing else (R75, R78). -/
theorem test_decode_refuses_short :
    (match decode true true [] with | .error .noBytes => true | _ => false) = true ∧
    (match decode true true [0xAD, 0x00] with | .error (.operandMissing 2) => true | _ => false) =
      true := by decide

/-! ### One decoded word per constructor (R73, R76), with `P.M = P.X = 1` -/

/-- `bs` decodes to `i` with nothing left. -/
def decodesTo (bs : List Byte) (i : Instr) : Bool :=
  match decode true true bs with
  | .ok r => decide (r.1 = i) && r.2.isEmpty
  | .error _ => false

/-- Words written out from the spec's encodings. -/
theorem test_decode_arithmetic : ∀ t ∈ (
      [([0x61, 0x12], .adc (.dpindx 0x12)), ([0xF3, 0x12], .sbc (.sriy 0x12)),
        ([0xDF, 0x12, 0x34, 0x56], .cmp (.abslx 0x563412)),
        ([0xE0, 0x12], .cpx (.immX (.byte 0x12))), ([0xCC, 0x12, 0x34], .cpy (.abs 0x3412)),
        ([0x32, 0x12], .and (.dpind 0x12)), ([0x0F, 0x12, 0x34, 0x56], .ora (.absl 0x563412)),
        ([0x57, 0x12], .eor (.dpindly 0x12)), ([0x89, 0x12], .bit (.immM (.byte 0x12))),
        ([0x0C, 0x12, 0x34], .tsb (.abs 0x3412)), ([0x14, 0x12], .trb (.dp 0x12)),
        ([0x1A], .inc .acc), ([0xDE, 0x12, 0x34], .dec (.absx 0x3412)), ([0xE8], .inx),
        ([0xC8], .iny), ([0xCA], .dex), ([0x88], .dey)] : List (List Byte × Instr)),
    decodesTo t.1 t.2 = true := by decide

/-- Words written out from the spec's encodings. -/
theorem test_decode_load_store : ∀ t ∈ (
      [([0xB9, 0x12, 0x34], .lda (.absy 0x3412)), ([0xB6, 0x12], .ldx (.dpy 0x12)),
        ([0xB4, 0x12], .ldy (.dpx 0x12)), ([0x92, 0x12], .sta (.dpind 0x12)),
        ([0x96, 0x12], .stx (.dpy 0x12)), ([0x94, 0x12], .sty (.dpx 0x12)),
        ([0x9E, 0x12, 0x34], .stz (.absx 0x3412)), ([0xAA], .tax), ([0xA8], .tay), ([0x8A], .txa),
        ([0x98], .tya), ([0x9B], .txy), ([0xBB], .tyx), ([0xBA], .tsx), ([0x9A], .txs),
        ([0x1B], .tcs), ([0x3B], .tsc), ([0x5B], .tcd), ([0x7B], .tdc), ([0xEB], .xba),
        ([0x54, 0x7F, 0x7E], .mvn 0x7F 0x7E), ([0x44, 0x01, 0x02], .mvp 0x01 0x02)] : List (List Byte × Instr)),
    decodesTo t.1 t.2 = true := by decide

/-- Words written out from the spec's encodings. -/
theorem test_decode_shift_and_stack : ∀ t ∈ (
      [([0x0A], .asl .acc), ([0x56, 0x12], .lsr (.dpx 0x12)),
        ([0x2E, 0x12, 0x34], .rol (.abs 0x3412)), ([0x66, 0x10], .ror (.dp 0x10)), ([0x48], .pha),
        ([0xDA], .phx), ([0x5A], .phy), ([0x08], .php), ([0x8B], .phb), ([0x0B], .phd),
        ([0x4B], .phk), ([0x68], .pla), ([0xFA], .plx), ([0x7A], .ply), ([0x28], .plp),
        ([0xAB], .plb), ([0x2B], .pld), ([0xF4, 0x34, 0x12], .pea 0x1234), ([0xD4, 0x10], .pei 0x10),
        ([0x62, 0x10, 0x00], .per 0x0010)] : List (List Byte × Instr)),
    decodesTo t.1 t.2 = true := by decide

/-- Words written out from the spec's encodings. -/
theorem test_decode_mode_and_control : ∀ t ∈ (
      [([0xC2, 0x30], .rep 0x30), ([0xE2, 0x30], .sep 0x30), ([0xFB], .xce), ([0x18], .clc),
        ([0xD8], .cld), ([0x58], .cli), ([0xB8], .clv), ([0x38], .sec), ([0xF8], .sed),
        ([0x78], .sei), ([0x90, 0x10], .bcc 0x10), ([0xB0, 0x10], .bcs 0x10),
        ([0xF0, 0xFE], .beq 0xFE), ([0xD0, 0x80], .bne 0x80), ([0x30, 0x7F], .bmi 0x7F),
        ([0x10, 0x10], .bpl 0x10), ([0x50, 0x04], .bvc 0x04), ([0x70, 0x04], .bvs 0x04),
        ([0x80, 0xF0], .bra 0xF0), ([0x82, 0xFD, 0x7F], .brl 0x7FFD)] : List (List Byte × Instr)),
    decodesTo t.1 t.2 = true := by decide

/-- Words written out from the spec's encodings. -/
theorem test_decode_jumps_and_system : ∀ t ∈ (
      [([0x6C, 0x00, 0x10], .jmp (.absind 0x1000)), ([0x7C, 0x00, 0x10], .jmp (.absindx 0x1000)),
        ([0x5C, 0x34, 0x12, 0x7E], .jml (.pcabsl 0x7E1234)),
        ([0xDC, 0x34, 0x12], .jml (.absindl 0x1234)), ([0x20, 0x34, 0x12], .jsr (.pcabs 0x1234)),
        ([0x22, 0x00, 0x80, 0x01], .jsl 0x018000), ([0x60], .rts), ([0x6B], .rtl), ([0x40], .rti),
        ([0x00, 0x00], .brk 0x00), ([0x02, 0x01], .cop 0x01), ([0xCB], .wai), ([0xDB], .stp),
        ([0xEA], .nop), ([0x42, 0xFF], .wdm 0xFF)] : List (List Byte × Instr)),
    decodesTo t.1 t.2 = true := by decide

/-- The same bytes under the other flags: R320's example. -/
theorem test_decode_width_tracks_flags :
    (match decode false true [0xA9, 0x34, 0x12] with
      | .ok r => decide (r = (.lda (.immM (.word 0x1234)), [])) | .error _ => false) = true ∧
    (match decode true true [0xA9, 0x34, 0x12] with
      | .ok r => decide (r = (.lda (.immM (.byte 0x34)), [0x12])) | .error _ => false) = true := by
  decide

/-! ### One execution per instruction, from the examples of the rules -/

/-- A native-mode state with 16-bit registers and nothing in memory; `PC` is as after a fetch. -/
def native : State := { State.reset with e := false, p := 0x00, sp := 0x1FFF, trace := [] }

/-- The next state of `i`. -/
def after (i : Instr) (s : State) : State :=
  match exec i s with
  | .next t => t
  | .fault _ => s
  | .refused _ => s

/-- R131, its example or corner case. -/
theorem test_adc_sets_overflow :
    let s : State := { native with p := 0x31, a := 0x0040 }
    let t := after (.adc (.immM (.byte 0x3F))) s
    t.a = 0x0080 ∧ t.p = 0xF0 := by decide

/-- R131, its example or corner case. -/
theorem test_adc_wraps_to_zero :
    let s : State := { native with p := 0x30, a := 0x12FF }
    let t := after (.adc (.immM (.byte 0x01))) s
    t.a = 0x1200 ∧ t.p = 0x33 := by decide

/-- R132, its example or corner case. -/
theorem test_sbc_decimal :
    let s : State := { native with p := 0x39, a := 0x0010 }
    let t := after (.sbc (.immM (.byte 0x05))) s
    t.a = 0x0005 ∧ t.p = 0x39 := by decide

/-- R132, its example or corner case. -/
theorem test_sbc_decimal_borrows :
    let s : State := { native with p := 0x39, a := 0x0000 }
    let t := after (.sbc (.immM (.byte 0x01))) s
    t.a = 0x0099 ∧ t.flagC = false := by decide

/-- R133, its example or corner case. -/
theorem test_cmp_equal :
    let s : State := { native with p := 0x00, a := 0x1234 }
    let t := after (.cmp (.immM (.word 0x1234))) s
    t.p = 0x03 ∧ t.a = 0x1234 := by decide

/-- R134, its example or corner case. -/
theorem test_cpx_less :
    let s : State := { native with p := 0x30, x := 0x0005 }
    let t := after (.cpx (.immX (.byte 0x06))) s
    t.p = 0xB0 ∧ t.x = 0x0005 := by decide

/-- R135, its example or corner case. -/
theorem test_cpy_unsigned :
    let s : State := { native with p := 0x00, y := 0x8000 }
    let t := after (.cpy (.immX (.word 0x7FFF))) s
    t.p = 0x01 := by decide

/-- R136, its example or corner case. -/
theorem test_and_keeps_high_byte :
    let s : State := { native with p := 0x30, a := 0x12F0 }
    let t := after (.and (.immM (.byte 0x0F))) s
    t.a = 0x1200 ∧ t.p = 0x32 := by decide

/-- R137, its example or corner case. -/
theorem test_ora_sixteen_bits :
    let s : State := { native with p := 0x00, a := 0x0001 }
    let t := after (.ora (.immM (.word 0x8000))) s
    t.a = 0x8001 ∧ t.p = 0x80 := by decide

/-- R138, its example or corner case. -/
theorem test_eor_to_zero :
    let s : State := { native with p := 0x30, a := 0x00FF }
    let t := after (.eor (.immM (.byte 0xFF))) s
    t.a = 0x0000 ∧ t.p = 0x32 := by decide

/-- R139, its example or corner case. -/
theorem test_bit_memory_form :
    let s : State := { native with p := 0x30, a := 0x0001, mem := [(0x10, 0xC0)] }
    let t := after (.bit (.dp 0x10)) s
    t.p = 0xF2 ∧ t.a = 0x0001 := by decide

/-- R139, its example or corner case. -/
theorem test_bit_immediate_form :
    let s : State := { native with p := 0x30, a := 0x0001 }
    let t := after (.bit (.immM (.byte 0xC0))) s
    t.p = 0x32 := by decide

/-- R140, its example or corner case. -/
theorem test_tsb_writes_or :
    let s : State := { native with p := 0x30, a := 0x0081, mem := [(0x10, 0x01)] }
    let t := after (.tsb (.dp 0x10)) s
    t.mem = [(0x10, 0x81)] ∧ t.p = 0x30 := by decide

/-- R141, its example or corner case. -/
theorem test_trb_writes_and_not :
    let s : State := { native with p := 0x30, a := 0x000F, mem := [(0x10, 0xFF)] }
    let t := after (.trb (.dp 0x10)) s
    t.mem = [(0x10, 0xF0)] ∧ t.p = 0x30 := by decide

/-- R142, its example or corner case. -/
theorem test_inc_accumulator_low_byte :
    let s : State := { native with p := 0x30, a := 0x12FF }
    let t := after (.inc .acc) s
    t.a = 0x1200 ∧ t.p = 0x32 := by decide

/-- R143, its example or corner case. -/
theorem test_dec_memory_high_byte_first :
    let s : State := { native with p := 0x00, mem := [(0x2000, 0x01)] }
    let t := after (.dec (.abs 0x2000)) s
    t.mem = [] ∧ t.p = 0x02 ∧
      (t.trace.drop 2) = [.write .data 0x002001 0x00, .write .data 0x002000 0x00] := by decide

/-- R144, its example or corner case. -/
theorem test_inx_wraps_at_eight_bits :
    let s : State := { native with p := 0x30, x := 0x00FF }
    let t := after .inx s
    t.x = 0x0000 ∧ t.p = 0x32 := by decide

/-- R145, its example or corner case. -/
theorem test_iny_sixteen_bits :
    let s : State := { native with p := 0x00, y := 0x7FFF }
    let t := after .iny s
    t.y = 0x8000 ∧ t.p = 0x80 := by decide

/-- R146, its example or corner case. -/
theorem test_dex_wraps :
    let s : State := { native with p := 0x00, x := 0x0000 }
    let t := after .dex s
    t.x = 0xFFFF ∧ t.p = 0x80 := by decide

/-- R147, its example or corner case. -/
theorem test_dey_to_zero :
    let s : State := { native with p := 0x30, y := 0x0001 }
    let t := after .dey s
    t.y = 0x0000 ∧ t.p = 0x32 := by decide

/-- R161, its example or corner case. -/
theorem test_lda_keeps_high_byte :
    let s : State := { native with p := 0x30, a := 0xAB00 }
    let t := after (.lda (.immM (.byte 0x80))) s
    t.a = 0xAB80 ∧ t.p = 0xB0 := by decide

/-- R162, its example or corner case. -/
theorem test_ldx_sixteen_bits :
    let s : State := { native with p := 0x00 }
    let t := after (.ldx (.immX (.word 0x8000))) s
    t.x = 0x8000 ∧ t.p = 0x80 := by decide

/-- R163, its example or corner case. -/
theorem test_ldy_zero :
    let s : State := { native with p := 0x30, y := 0x0012 }
    let t := after (.ldy (.immX (.byte 0x00))) s
    t.y = 0x0000 ∧ t.p = 0x32 := by decide

/-- R164, its example or corner case. -/
theorem test_sta_crosses_the_bank :
    let s : State := { native with p := 0x00, a := 0x1234, dbr := 0x7E }
    let t := after (.sta (.abs 0xFFFF)) s
    t.mem = [(0x7EFFFF, 0x34), (0x7F0000, 0x12)] ∧ t.p = 0x00 := by decide

/-- R165, its example or corner case. -/
theorem test_stx_eight_bits :
    let s : State := { native with p := 0x30, x := 0x0042 }
    let t := after (.stx (.dp 0x10)) s
    t.mem = [(0x10, 0x42)] := by decide

/-- R166, its example or corner case. -/
theorem test_sty_sixteen_bits :
    let s : State := { native with p := 0x00, y := 0xBEEF }
    let t := after (.sty (.abs 0x2000)) s
    t.mem = [(0x2000, 0xEF), (0x2001, 0xBE)] := by decide

/-- R167, its example or corner case. -/
theorem test_stz_two_bytes :
    let s : State := { native with p := 0x00, mem := [(0x300, 0x11), (0x301, 0x22), (0x302, 0x33)] }
    let t := after (.stz (.abs 0x0300)) s
    t.mem = [(0x302, 0x33)] := by decide

/-- R168, its example or corner case. -/
theorem test_tax_all_bits :
    let s : State := { native with p := 0x20, a := 0x8001 }
    let t := after .tax s
    t.x = 0x8001 ∧ t.p = 0xA0 := by decide

/-- R169, its example or corner case. -/
theorem test_tay_low_byte_only :
    let s : State := { native with p := 0x10, a := 0x1200 }
    let t := after .tay s
    t.y = 0x0000 ∧ t.p = 0x12 := by decide

/-- R170, its example or corner case. -/
theorem test_txa_clears_high_byte :
    let s : State := { native with p := 0x10, x := 0x00FF, a := 0xAAAA }
    let t := after .txa s
    t.a = 0x00FF ∧ t.p = 0x10 := by decide

/-- R171, its example or corner case. -/
theorem test_tya_keeps_high_byte :
    let s : State := { native with p := 0x20, a := 0x5500, y := 0x0080 }
    let t := after .tya s
    t.a = 0x5580 ∧ t.p = 0xA0 := by decide

/-- R172, its example or corner case. -/
theorem test_txy_zero :
    let s : State := { native with p := 0x00, y := 0x0001 }
    let t := after .txy s
    t.y = 0x0000 ∧ t.p = 0x02 := by decide

/-- R173, its example or corner case. -/
theorem test_tyx_negative :
    let s : State := { native with p := 0x00, y := 0xFFFF }
    let t := after .tyx s
    t.x = 0xFFFF ∧ t.p = 0x80 := by decide

/-- R174, its example or corner case. -/
theorem test_tsx_low_byte :
    let s : State := { native with e := true, p := 0x30, sp := 0x01F0 }
    let t := after .tsx s
    t.x = 0x00F0 ∧ t.p = 0xB0 := by decide

/-- R175, its example or corner case. -/
theorem test_txs_native :
    let s : State := { native with p := 0x00, x := 0x1FFF }
    let t := after .txs s
    t.sp = 0x1FFF ∧ t.p = 0x00 := by decide

/-- R176, its example or corner case. -/
theorem test_tcs_clamps :
    let s : State := { native with e := true, p := 0x30, a := 0x1234 }
    let t := after .tcs s
    t.sp = 0x0134 := by decide

/-- R177, its example or corner case. -/
theorem test_tsc_sixteen_bits :
    let s : State := { native with e := true, p := 0x30, sp := 0x01FF }
    let t := after .tsc s
    t.a = 0x01FF ∧ t.p = 0x30 := by decide

/-- R178, its example or corner case. -/
theorem test_tcd_zero :
    let s : State := { native with p := 0x30, a := 0x0000, d := 0x1234 }
    let t := after .tcd s
    t.d = 0x0000 ∧ t.p = 0x32 := by decide

/-- R179, its example or corner case. -/
theorem test_tdc_sixteen_bits :
    let s : State := { native with p := 0x30, d := 0x8000 }
    let t := after .tdc s
    t.a = 0x8000 ∧ t.p = 0xB0 := by decide

/-- R180, its example or corner case. -/
theorem test_xba_flags_from_new_low :
    let s : State := { native with p := 0x00, a := 0x8001 }
    let t := after .xba s
    t.a = 0x0180 ∧ t.p = 0x80 := by decide

/-- R182, its example or corner case. -/
theorem test_mvn_first_byte :
    let s : State := { native with
      p := 0x00, a := 0x0001, x := 0x1000, y := 0x2000, pc := 0x8003, mem := [(0x7E1000, 0x55)] }
    let t := after (.mvn 0x7F 0x7E) s
    t.mem = [(0x7E1000, 0x55), (0x7F2000, 0x55)] ∧ t.a = 0x0000 ∧ t.x = 0x1001 ∧ t.y = 0x2001 ∧
      t.dbr = 0x7F ∧ t.pc = 0x8000 := by decide

/-- R183, its example or corner case. -/
theorem test_mvp_last_byte :
    let s : State := { native with
      p := 0x00, a := 0x0000, x := 0x10FF, y := 0x20FF, pc := 0x8003, mem := [(0x10FF, 0x66)] }
    let t := after (.mvp 0x00 0x00) s
    t.mem = [(0x10FF, 0x66), (0x20FF, 0x66)] ∧ t.a = 0xFFFF ∧ t.x = 0x10FE ∧ t.y = 0x20FE ∧
      t.pc = 0x8003 := by decide

/-- R191, its example or corner case. -/
theorem test_asl_accumulator :
    let s : State := { native with p := 0x30, a := 0x1281 }
    let t := after (.asl .acc) s
    t.a = 0x1202 ∧ t.p = 0x31 := by decide

/-- R192, its example or corner case. -/
theorem test_lsr_to_zero :
    let s : State := { native with p := 0x00, a := 0x0001 }
    let t := after (.lsr .acc) s
    t.a = 0x0000 ∧ t.p = 0x03 := by decide

/-- R193, its example or corner case. -/
theorem test_rol_carry_enters :
    let s : State := { native with p := 0x01, a := 0x8000 }
    let t := after (.rol .acc) s
    t.a = 0x0001 ∧ t.p = 0x01 := by decide

/-- R194, its example or corner case. -/
theorem test_ror_memory :
    let s : State := { native with e := true, p := 0x30, sp := 0x01FF, mem := [(0x10, 0x01)] }
    let t := after (.ror (.dp 0x10)) s
    t.mem = [] ∧ t.p = 0x33 := by decide

/-- R204, its example or corner case. -/
theorem test_pha_sixteen_bits :
    let s : State := { native with p := 0x00, sp := 0x1FFF, a := 0xABCD }
    let t := after .pha s
    t.mem = [(0x1FFE, 0xCD), (0x1FFF, 0xAB)] ∧ t.sp = 0x1FFD := by decide

/-- R205, its example or corner case. -/
theorem test_phx_eight_bits :
    let s : State := { native with e := true, p := 0x30, sp := 0x01FF, x := 0x0033 }
    let t := after .phx s
    t.mem = [(0x1FF, 0x33)] ∧ t.sp = 0x01FE := by decide

/-- R206, its example or corner case. -/
theorem test_phy_wraps :
    let s : State := { native with p := 0x00, sp := 0x0001, y := 0x1234 }
    let t := after .phy s
    t.mem = [(0x0, 0x34), (0x1, 0x12)] ∧ t.sp = 0xFFFF := by decide

/-- R207, its example or corner case. -/
theorem test_php_one_byte :
    let s : State := { native with e := true, p := 0x34, sp := 0x01FF }
    let t := after .php s
    t.mem = [(0x1FF, 0x34)] ∧ t.sp = 0x01FE := by decide

/-- R208, its example or corner case. -/
theorem test_phb_one_byte :
    let s : State := { native with p := 0x00, sp := 0x1FFF, dbr := 0x7E }
    let t := after .phb s
    t.mem = [(0x1FFF, 0x7E)] ∧ t.sp = 0x1FFE := by decide

/-- R209, its example or corner case. -/
theorem test_phd_wraps_in_page_one :
    let s : State := { native with e := true, p := 0x30, sp := 0x0100, d := 0x2000 }
    let t := after .phd s
    t.mem = [(0x100, 0x20)] ∧ t.sp = 0x01FE ∧
      t.trace = [.write .data 0x000100 0x20, .write .data 0x0001FF 0x00] := by decide

/-- R210, its example or corner case. -/
theorem test_phk_one_byte :
    let s : State := { native with p := 0x00, sp := 0x1FFF, k := 0x80 }
    let t := after .phk s
    t.mem = [(0x1FFF, 0x80)] ∧ t.sp = 0x1FFE := by decide

/-- R211, its example or corner case. -/
theorem test_pla_eight_bits :
    let s : State := { native with p := 0x20, a := 0x1200, sp := 0x01FE, mem := [(0x1FF, 0x80)] }
    let t := after .pla s
    t.a = 0x1280 ∧ t.sp = 0x01FF ∧ t.p = 0xA0 := by decide

/-- R212, its example or corner case. -/
theorem test_plx_sixteen_bits :
    let s : State := { native with p := 0x00, sp := 0x1FFD, x := 0x0001 }
    let t := after .plx s
    t.x = 0x0000 ∧ t.sp = 0x1FFF ∧ t.p = 0x02 := by decide

/-- R213, its example or corner case. -/
theorem test_ply_eight_bits :
    let s : State := { native with p := 0x10, sp := 0x01FE, mem := [(0x1FF, 0xFF)] }
    let t := after .ply s
    t.y = 0x00FF ∧ t.p = 0x90 := by decide

/-- R214, its example or corner case. -/
theorem test_plp_truncates_index :
    let s : State := { native with p := 0x00, x := 0x1234, sp := 0x1FFE, mem := [(0x1FFF, 0x10)] }
    let t := after .plp s
    t.p = 0x10 ∧ t.x = 0x0034 ∧ t.sp = 0x1FFF := by decide

/-- R215, its example or corner case. -/
theorem test_plb_zero :
    let s : State := { native with p := 0x00, dbr := 0x7E, sp := 0x1FFE }
    let t := after .plb s
    t.dbr = 0x00 ∧ t.p = 0x02 := by decide

/-- R216, its example or corner case. -/
theorem test_pld_negative :
    let s : State := { native with p := 0x30, sp := 0x1FFD, mem := [(0x1FFF, 0x80)] }
    let t := after .pld s
    t.d = 0x8000 ∧ t.p = 0xB0 := by decide

/-- R217, its example or corner case. -/
theorem test_pea_pushes_operand :
    let s : State := { native with p := 0x30, sp := 0x1FFF }
    let t := after (.pea 0x1234) s
    t.mem = [(0x1FFE, 0x34), (0x1FFF, 0x12)] ∧ t.sp = 0x1FFD := by decide

/-- R218, its example or corner case. -/
theorem test_pei_no_page_wrap :
    let s : State := { native with
      e := true, p := 0x30, sp := 0x01F0, mem := [(0xFF, 0x78), (0x100, 0x56)] }
    let t := after (.pei 0xFF) s
    t.mem = [(0xFF, 0x78), (0x100, 0x56), (0x1EF, 0x78), (0x1F0, 0x56)] ∧ t.sp = 0x01EE := by decide

/-- R219, its example or corner case. -/
theorem test_per_pushes_target :
    let s : State := { native with p := 0x00, sp := 0x1FFF, pc := 0x8003 }
    let t := after (.per 0x0010) s
    t.mem = [(0x1FFE, 0x13), (0x1FFF, 0x80)] ∧ t.pc = 0x8003 := by decide

/-- R220, its example or corner case. -/
theorem test_rep_clears_widths :
    let s : State := { native with p := 0x30, x := 0x0012 }
    let t := after (.rep 0x30) s
    t.p = 0x00 ∧ t.x = 0x0012 := by decide

/-- R220, its example or corner case. -/
theorem test_rep_in_emulation_mode :
    let s : State := { native with e := true, p := 0x30, sp := 0x01FF }
    let t := after (.rep 0x30) s
    t.p = 0x30 := by decide

/-- R221, its example or corner case. -/
theorem test_sep_truncates_index :
    let s : State := { native with p := 0x00, x := 0xABCD, y := 0x1234, a := 0xBEEF }
    let t := after (.sep 0x30) s
    t.p = 0x30 ∧ t.x = 0x00CD ∧ t.y = 0x0034 ∧ t.a = 0xBEEF := by decide

/-- R222, its example or corner case. -/
theorem test_xce_leaves_emulation :
    let s : State := { native with e := true, p := 0x30, sp := 0x01FF }
    let t := after .xce s
    t.e = false ∧ t.p = 0x31 ∧ t.sp = 0x01FF := by decide

/-- R222, its example or corner case. -/
theorem test_xce_enters_emulation :
    let s : State := { native with p := 0x01, x := 0x1234, sp := 0x1FF0 }
    let t := after .xce s
    t.e = true ∧ t.p = 0x30 ∧ t.x = 0x0034 ∧ t.sp = 0x01F0 := by decide

/-- R223, its example or corner case. -/
theorem test_clc_clears :
    let s : State := { native with p := 0xFF }
    let t := after .clc s
    t.p = 0xFE := by decide

/-- R224, its example or corner case. -/
theorem test_cld_clears :
    let s : State := { native with p := 0xFF }
    let t := after .cld s
    t.p = 0xF7 := by decide

/-- R225, its example or corner case. -/
theorem test_cli_clears :
    let s : State := { native with p := 0xFF }
    let t := after .cli s
    t.p = 0xFB := by decide

/-- R226, its example or corner case. -/
theorem test_clv_clears :
    let s : State := { native with p := 0xFF }
    let t := after .clv s
    t.p = 0xBF := by decide

/-- R227, its example or corner case. -/
theorem test_sec_sets :
    let s : State := { native with p := 0x00 }
    let t := after .sec s
    t.p = 0x01 := by decide

/-- R228, its example or corner case. -/
theorem test_sed_sets :
    let s : State := { native with p := 0x00 }
    let t := after .sed s
    t.p = 0x08 := by decide

/-- R229, its example or corner case. -/
theorem test_sei_sets :
    let s : State := { native with p := 0x00 }
    let t := after .sei s
    t.p = 0x04 := by decide

/-- R241, its example or corner case. -/
theorem test_bcc_taken :
    let s : State := { native with p := 0x00, pc := 0x8002 }
    let t := after (.bcc 0x10) s
    t.pc = 0x8012 := by decide

/-- R242, its example or corner case. -/
theorem test_bcs_not_taken :
    let s : State := { native with p := 0x00, pc := 0x8002 }
    let t := after (.bcs 0x10) s
    t.pc = 0x8002 := by decide

/-- R243, its example or corner case. -/
theorem test_beq_to_itself :
    let s : State := { native with p := 0x02, pc := 0x8002 }
    let t := after (.beq 0xFE) s
    t.pc = 0x8000 := by decide

/-- R244, its example or corner case. -/
theorem test_bne_far_back :
    let s : State := { native with p := 0x00, pc := 0x8002 }
    let t := after (.bne 0x80) s
    t.pc = 0x7F82 := by decide

/-- R245, its example or corner case. -/
theorem test_bmi_wraps_in_bank :
    let s : State := { native with p := 0x80, pc := 0xFFF2, k := 0x12 }
    let t := after (.bmi 0x7F) s
    t.pc = 0x0071 ∧ t.k = 0x12 := by decide

/-- R246, its example or corner case. -/
theorem test_bpl_not_taken :
    let s : State := { native with p := 0x80, pc := 0x8002 }
    let t := after (.bpl 0x10) s
    t.pc = 0x8002 := by decide

/-- R247, its example or corner case. -/
theorem test_bvc_taken :
    let s : State := { native with p := 0x00, pc := 0x8002 }
    let t := after (.bvc 0x04) s
    t.pc = 0x8006 := by decide

/-- R248, its example or corner case. -/
theorem test_bvs_not_taken :
    let s : State := { native with p := 0x00, pc := 0x8002 }
    let t := after (.bvs 0x04) s
    t.pc = 0x8002 := by decide

/-- R249, its example or corner case. -/
theorem test_bra_back :
    let s : State := { native with pc := 0x0012 }
    let t := after (.bra 0xF0) s
    t.pc = 0x0002 := by decide

/-- R250, its example or corner case. -/
theorem test_brl_wraps :
    let s : State := { native with pc := 0x8003, k := 0x05 }
    let t := after (.brl 0x7FFD) s
    t.pc = 0x0000 ∧ t.k = 0x05 := by decide

/-- R251, its example or corner case. -/
theorem test_jmp_indirect :
    let s : State := { native with k := 0x80, mem := [(0x1000, 0x34), (0x1001, 0x12)] }
    let t := after (.jmp (.absind 0x1000)) s
    t.pc = 0x1234 ∧ t.k = 0x80 := by decide

/-- R251, its example or corner case. -/
theorem test_jmp_indexed_pointer_wraps :
    let s : State := { native with
      p := 0x00, k := 0x02, x := 0x0001, mem := [(0x20000, 0x78), (0x20001, 0x56)] }
    let t := after (.jmp (.absindx 0xFFFF)) s
    t.pc = 0x5678 ∧ t.k = 0x02 := by decide

/-- R252, its example or corner case. -/
theorem test_jml_long :
    let s : State := { native with k := 0x00 }
    let t := after (.jml (.pcabsl 0x7E1234)) s
    t.pc = 0x1234 ∧ t.k = 0x7E := by decide

/-- R253, its example or corner case. -/
theorem test_jsr_pushes_last_byte :
    let s : State := { native with p := 0x00, sp := 0x1FFF, pc := 0x8003 }
    let t := after (.jsr (.pcabs 0x1234)) s
    t.mem = [(0x1FFE, 0x02), (0x1FFF, 0x80)] ∧ t.pc = 0x1234 ∧ t.sp = 0x1FFD := by decide

/-- R254, its example or corner case. -/
theorem test_jsl_pushes_bank_first :
    let s : State := { native with p := 0x00, sp := 0x1FFF, pc := 0x9004, k := 0x03 }
    let t := after (.jsl 0x018000) s
    t.mem = [(0x1FFD, 0x03), (0x1FFE, 0x90), (0x1FFF, 0x03)] ∧ t.pc = 0x8000 ∧ t.k = 0x01 ∧
      t.sp = 0x1FFC := by decide

/-- R255, its example or corner case. -/
theorem test_rts_adds_one :
    let s : State := { native with
      p := 0x00, sp := 0x1FFD, k := 0x05, mem := [(0x1FFE, 0x02), (0x1FFF, 0x80)] }
    let t := after .rts s
    t.pc = 0x8003 ∧ t.sp = 0x1FFF ∧ t.k = 0x05 := by decide

/-- R256, its example or corner case. -/
theorem test_rtl_pulls_bank :
    let s : State := { native with
      p := 0x00, sp := 0x1FFC, k := 0x01, mem := [(0x1FFD, 0x03), (0x1FFE, 0x90)] }
    let t := after .rtl s
    t.pc = 0x9004 ∧ t.k = 0x00 ∧ t.sp = 0x1FFF := by decide

/-- R257, its example or corner case. -/
theorem test_rti_native :
    let s : State := { native with
      p := 0x00, sp := 0x1FFB, mem := [(0x1FFC, 0x20), (0x1FFE, 0x90), (0x1FFF, 0x01)] }
    let t := after .rti s
    t.p = 0x20 ∧ t.pc = 0x9000 ∧ t.k = 0x01 ∧ t.sp = 0x1FFF := by decide

/-- R257, its example or corner case. -/
theorem test_rti_emulation_keeps_bank :
    let s : State := { native with
      e := true, p := 0x30, sp := 0x01F0, k := 0x07, mem := [(0x1F2, 0x34), (0x1F3, 0x12)] }
    let t := after .rti s
    t.p = 0x30 ∧ t.pc = 0x1234 ∧ t.k = 0x07 ∧ t.sp = 0x01F3 := by decide

/-- R270, its example or corner case. -/
theorem test_brk_native :
    let s : State := { native with
      p := 0x00, k := 0x12, pc := 0x3458, sp := 0x1FFF, mem := [(0xFFE7, 0x80)] }
    let t := after (.brk 0x00) s
    t.mem = [(0x1FFD, 0x58), (0x1FFE, 0x34), (0x1FFF, 0x12), (0xFFE7, 0x80)] ∧ t.sp = 0x1FFB ∧
      t.p = 0x04 ∧ t.k = 0x00 ∧ t.pc = 0x8000 := by decide

/-- R271, its example or corner case. -/
theorem test_cop_emulation :
    let s : State := { native with
      e := true, p := 0x30, pc := 0x0202, sp := 0x01FF, mem := [(0xFFF5, 0xE0)] }
    let t := after (.cop 0x01) s
    t.mem = [(0x1FD, 0x30), (0x1FE, 0x02), (0x1FF, 0x02), (0xFFF5, 0xE0)] ∧ t.sp = 0x01FC ∧
      t.p = 0x34 ∧ t.pc = 0xE000 := by decide

/-- R272, its example or corner case. -/
theorem test_wai_waits :
    let s : State := { native with pc := 0x8001 }
    let t := after .wai s
    t.run = .waiting ∧ t.pc = 0x8001 := by decide

/-- R273, its example or corner case. -/
theorem test_stp_stops :
    let s : State := { native with pc := 0x8001 }
    let t := after .stp s
    t.run = .stopped ∧ t.pc = 0x8001 := by decide

/-- R274. -/
theorem test_nop_changes_nothing : after (.nop) { native with pc := 0x8001 } = { native with pc := 0x8001 } := by decide

/-- R275. -/
theorem test_wdm_changes_nothing : after (.wdm 0xFF) { native with pc := 0x8002 } = { native with pc := 0x8002 } := by decide

/-- R91, R97, its example or corner case. -/
theorem test_dp_page_wrap :
    let s : State := { native with
      e := true, p := 0x30, sp := 0x01FF, d := 0x1200, mem := [(0x12FF, 0x42)] }
    let t := after (.lda (.dp 0xFF)) s
    t.a = 0x0042 := by decide

/-- R98, its example or corner case. -/
theorem test_dpx_page_wrap :
    let s : State := { native with
      e := true, p := 0x30, sp := 0x01FF, x := 0x0001, mem := [(0x0, 0x42)] }
    let t := after (.lda (.dpx 0xFF)) s
    t.a = 0x0042 := by decide

/-- R91, its example or corner case. -/
theorem test_dpx_no_wrap_when_low_byte_set :
    let s : State := { native with
      e := true, p := 0x30, sp := 0x01FF, d := 0x0101, x := 0x0001, mem := [(0x201, 0x42)] }
    let t := after (.lda (.dpx 0xFF)) s
    t.a = 0x0042 := by decide

/-- R102, its example or corner case. -/
theorem test_dpindy_carries_into_bank :
    let s : State := { native with
      p := 0x20, y := 0x0001, dbr := 0x7E, mem := [(0x10, 0xFF), (0x11, 0xFF), (0x7F0000, 0x99)] }
    let t := after (.lda (.dpindy 0x10)) s
    t.a = 0x0099 := by decide

/-- R103, its example or corner case. -/
theorem test_dpindl_long_pointer :
    let s : State := { native with
      p := 0x20, mem := [(0x10, 0x34), (0x11, 0x12), (0x12, 0x7E), (0x7E1234, 0x77)] }
    let t := after (.lda (.dpindl 0x10)) s
    t.a = 0x0077 := by decide

/-- R109, its example or corner case. -/
theorem test_abslx_wraps_at_the_top :
    let s : State := { native with p := 0x20, x := 0x0001, mem := [(0x0, 0x5A)] }
    let t := after (.lda (.abslx 0xFFFFFF)) s
    t.a = 0x005A := by decide

/-- R110, its example or corner case. -/
theorem test_sr_word :
    let s : State := { native with
      p := 0x00, sp := 0x1FF0, mem := [(0x1FF3, 0x34), (0x1FF4, 0x12)] }
    let t := after (.lda (.sr 0x03)) s
    t.a = 0x1234 := by decide

/-- R111, its example or corner case. -/
theorem test_sriy_pointer :
    let s : State := { native with
      p := 0x20, sp := 0x1FF0, y := 0x0002, dbr := 0x7E,
      mem := [(0x1FF2, 0x20), (0x7E2002, 0x66)] }
    let t := after (.lda (.sriy 0x01)) s
    t.a = 0x0066 := by decide

/-! ### Steps, reset, memory and the lines -/

/-- Some fields of the next state of a step. -/
def stepped (s : State) (f : State → Bool) : Bool :=
  match step s with
  | .next t => f t
  | .fault _ => false
  | .refused _ => false

/-- The first step after reset runs the placed instruction (R72): `LDA #$80`. -/
theorem test_step_runs_placed_word :
    stepped (State.reset.withFetchWord 16 0x80A9) (fun t =>
      decide (t.a = 0x0080 ∧ t.p = 0xB4 ∧ t.pc = 0x0002 ∧
        t.trace = [.read .opcodeFetch 0x000000 0xA9, .read .operand 0x000001 0x80])) = true := by
  decide

/-- The table numbers the opcode byte lowest; the bits above are zero. -/
theorem test_table_words :
    decodeTableWord 24 0x3412AD = some (.lda (.abs 0x3412)) ∧
    decodeTableWord 8 0x22 = some (.jsl 0x000000) := by decide

/-- The offset of an operand fetch wraps inside the program bank (R27): `LDA dp` at 0x12FFFF. -/
theorem test_fetch_wraps_in_bank :
    (let s : State := { native with
       p := 0x30, k := 0x12, pc := 0xFFFF,
       mem := [(0x10, 0x42), (0x120000, 0x10), (0x12FFFF, 0xA5)] }
     stepped s (fun t => decide (t.a = 0x0042 ∧ t.pc = 0x0001 ∧ t.k = 0x12))) = true := by decide

/-- An NMI raised during an instruction is taken at its boundary (R283, R284); nothing masks it. -/
theorem test_nmi_at_the_boundary :
    (let s : State := { native with
       p := 0x04, pc := 0x8000, mem := [(0x8000, 0xEA), (0xFFEB, 0x90)],
       env := [{ answer := none, calls := [.assertNmi] }] }
     stepped s (fun t => decide (t.pc = 0x9000 ∧ t.nmiPending = false ∧ t.sp = 0x1FFB))) = true := by
  decide

/-- A waiting core wakes on a masked line and enters nothing (R288); a stopped one does not wake. -/
theorem test_wait_and_stop :
    stepped { native with p := 0x04, run := .waiting, irqLines := 1 }
      (fun t => decide (t.run = .running ∧ t.sp = 0x1FFF ∧ t.trace = [])) = true ∧
    stepped { native with run := .stopped, nmiPending := true }
      (fun t => decide (t.run = .stopped ∧ t.nmiPending = true)) = true := by decide

/-- What reset leaves of a used machine (R310). -/
theorem test_reset_of_a_used_machine :
    let s : State := { native with
      p := 0xCB, x := 0x1234, d := 0x5678, k := 0x12, dbr := 0x7E,
      irqLines := 1, nmiPending := true, run := .stopped, mem := [(0xFFFD, 0x80)] }
    let t := s.resetCore
    t.p = 0xF7 ∧ t.x = 0x0034 ∧ t.sp = 0x01FF ∧ t.d = 0x0000 ∧ t.pc = 0x8000 ∧
      t.irqLines = 1 ∧ t.nmiPending = false ∧ t.run = .running := by decide

/-- A line call during the vector reads stays pending (R310), and the bus may answer them (R51). -/
theorem test_power_on_with_a_script :
    let t := State.powerOn ResetDraw.named []
      [{ answer := some 0x34, calls := [] }, { answer := some 0x12, calls := [.assertNmi] }]
    t.pc = 0x1234 ∧ t.nmiPending = true ∧ t.irqLines = 0 ∧ t.env = [] := by decide

/-- The introspection peeks the pointer and answers the width of the rule (R123); the snapshot has the
registers as they are (R43). -/
theorem test_introspect :
    let s : State := { native with dbr := 0x7E, mem := [(0x10, 0x34), (0x11, 0x12)] }
    introspect (.lda (.dpind 0x10)) s = (.operand (.mem 0x7E1234 0x7E1235), some .w16) ∧
    s.snapshot.dbr = 0x7E ∧ s.snapshot.sp = 0x1FFF := by decide

/-- The canonical form of memory: order, the unlisted byte, and the address space. -/
theorem test_memory_form :
    Memory.wf [(0x10, 0x01), (0xFFFFFF, 0x02)] = true ∧ Memory.wf [(0x10, 0x00)] = false ∧
    Memory.wf [(0x11, 0x01), (0x10, 0x01)] = false ∧ Memory.wf [(0x1000000, 0x01)] = false ∧
    Memory.write [(0x10, 0x01)] 0x10 0x00 = [] := by decide

/-! ### For each statement with hypotheses, a state and operands that meet them -/

theorem witness_reset_inv : State.reset.Inv :=
  ⟨by decide, by decide, by decide, by decide, by simp [State.reset]⟩

theorem witness_native_inv : native.Inv :=
  ⟨by decide, by decide, by decide, by decide, by simp [native, State.reset]⟩

/-- DecodeInvertsEncode. -/
theorem witness_wellFormed : (Instr.lda (.immM (.word 0xFFFF))).wellFormed false true = true := by decide

/-- EncodeInvertsDecode, OperandFieldsInOrder. -/
theorem witness_decode :
    decode true true [0x5C, 0xFF, 0xFF, 0xFF] = .ok (.jml (.pcabsl 0xFFFFFF), []) := by rfl

/-- ImmediateLengthFollowsFlags, ModesWithoutAddress: each clause. -/
theorem witness_opcode_classes :
    (0x09 : Byte) ∈ immMOpcodes ∧ (0xE9 : Byte) ∈ immMOpcodes ∧ (0xA0 : Byte) ∈ immXOpcodes ∧
    (0xE0 : Byte) ∈ immXOpcodes ∧ (0xC2 : Byte) ∈ [(0xC2 : Byte), 0xE2] ∧
    (0x42 : Byte) ∈ [(0x00 : Byte), 0x02, 0x42] ∧ (0xFF : Byte) ∉ immMOpcodes ++ immXOpcodes := by
  decide

/-- ResetMeetsTheInvariants, ReadAfterWrite. -/
theorem witness_memory_and_lines :
    Memory.wf [(0xFFFFFF, 0xFF)] = true ∧ (1 : Nat) < 2 ^ Config.irqSources :=
  ⟨by decide, Nat.one_lt_two_pow (Nat.succ_ne_zero _)⟩

/-- StepKeepsTheInvariants, the clause on steps of EveryAccessIsAccounted. -/
theorem witness_step : ∃ t, step native = .next t ∧ t.run = .running :=
  ⟨_, rfl, by decide⟩

/-- RegistersWrittenOnlyBy, FlagsWrittenOnlyBy, the first clause of EveryAccessIsAccounted. -/
theorem witness_exec : Instr.xce.hasForm = true ∧ native.Inv ∧
    exec .xce native = .next (native.setFlag maskC false |>.setE false) :=
  ⟨by decide, witness_native_inv, rfl⟩

/-- The last clause of RegistersWrittenOnlyBy, on memory: a form that stores nothing. -/
theorem witness_exec_form : (Instr.cmp (.absx 0xFFFF)).hasForm = true ∧
    (Instr.cmp (.absx 0xFFFF)).op = .cmp ∧ ∃ t, exec (.cmp (.absx 0xFFFF)) native = .next t :=
  ⟨by decide, by decide, ⟨_, rfl⟩⟩

/-- `RTI` in emulation mode, and `BIT` of an immediate, for the clauses on them. -/
theorem witness_exec_clauses :
    State.reset.e = true ∧ Instr.rti.hasForm = true ∧ Instr.rti.op = .rti ∧ (∃ t, exec .rti State.reset = .next t) ∧
    ∃ t, exec (.bit (.immM (.byte 0xFF))) State.reset = .next t :=
  ⟨by decide, by decide, by decide, ⟨_, rfl⟩, ⟨_, rfl⟩⟩

/-- ResetAndPowerOn: the clause on a stopped core. -/
theorem witness_stopped_step : ∃ t, ({ native with run := .stopped } : State).run = .stopped ∧
    step { native with run := .stopped } = .next t ∧ t.run = .stopped :=
  ⟨_, rfl, rfl, rfl⟩

/-- StepRunsTheDecodedInstruction: each run state, the last one with bytes that decode. -/
theorem witness_run_states :
    ({ native with run := .stopped } : State).run = .stopped ∧
    ({ native with run := .waiting } : State).run = .waiting ∧ native.run = .running ∧
    decode native.flagM native.flagX native.codeBytes = .ok (.brk 0x00, [0x00, 0x00]) :=
  ⟨rfl, rfl, rfl, by rfl⟩

/-- IntrospectionAgrees, StackPrimitives, ReturnUndoesCall, RtiUndoesEnter: in each mode. -/
theorem witness_quiet_bus : (native.Inv ∧ native.env = []) ∧ State.reset.Inv ∧ State.reset.env = [] :=
  ⟨⟨witness_native_inv, rfl⟩, witness_reset_inv, rfl⟩

/-- The statements whose only hypothesis is the invariants (through `Completes` or by name), with
16-bit registers in native mode and with 8-bit ones in emulation mode. -/
theorem witness_widths :
    (native.Inv ∧ native.wM = .w16 ∧ native.wX = .w16) ∧
    State.reset.Inv ∧ State.reset.wM = .w8 ∧ State.reset.wX = .w8 :=
  ⟨⟨witness_native_inv, by decide, by decide⟩, witness_reset_inv, by decide, by decide⟩

/-- BinaryArithmeticIsInteger, at the ends of both widths. -/
theorem witness_truncated :
    trunc .w8 0x00FF = 0x00FF ∧ trunc .w16 0xFFFF = 0xFFFF ∧ trunc .w8 0 = 0 := by decide

/-- DecimalArithmeticIsDecimal, at the largest digits of both widths. -/
theorem witness_bcd :
    trunc .w8 0x0099 = 0x0099 ∧ trunc .w16 0x9999 = 0x9999 ∧
    isBcd (bitsOf .w8) (0x0099 : Word).toNat ∧ isBcd (bitsOf .w16) (0x9999 : Word).toNat := by
  refine ⟨by decide, by decide, ?_, ?_⟩
  · intro j hj
    have h : j < 2 := by simp [bitsOf] at hj; omega
    interval_cases j <;> decide
  · intro j hj
    have h : j < 4 := by simp [bitsOf] at hj; omega
    interval_cases j <;> decide

/-- BitTestsTheOperand: a mode that always has an address. -/
theorem witness_memory_mode : ∀ s : State, ∃ a0 a1, (s.resolveData (.dp 0xFF)).1 = .mem a0 a1 :=
  fun _ => ⟨_, _, rfl⟩

/-- TestAndSetWritesBack, IncrementAndDecrement, StoresWriteMemoryOnly, ShiftsAndRotates: an operand whose
second byte lies in the next bank, and one at the end of the wrapped page. -/
theorem witness_memory_operand :
    native.Inv ∧ (native.resolveData (.abs 0xFFFF)).1 = .mem 0x00FFFF 0x010000 ∧
    State.reset.Inv ∧ (State.reset.resolveData (.dp 0xFF)).1 = .mem 0x0000FF 0x000000 :=
  ⟨witness_native_inv, by decide, witness_reset_inv, by decide⟩

/-- The last clauses of SingleFlagInstructions. -/
theorem witness_line_at_cli :
    ∃ s t u : State, s.Inv ∧ s.run = .running ∧ s.nmiPending = false ∧ s.irqLines ≠ 0 ∧
      exec .cli s = .next t ∧ exec .sei s = .next u :=
  ⟨{ native with irqLines := 1 }, _, _,
    ⟨by decide, by decide, by decide, by decide, witness_memory_and_lines.2⟩,
    rfl, rfl, by decide, rfl, rfl⟩

/-- EnterSavesAndVectors, and the last clause of BrkAndCopEnter, which asks for emulation mode. -/
theorem witness_enter : State.reset.Inv ∧ State.reset.e = true ∧ native.Inv ∧ native.e = false :=
  ⟨witness_reset_inv, by decide, witness_native_inv, by decide⟩

/-- WaitStopAndNothing, StoppedUntilReset: every combination that their clauses name. -/
theorem witness_waiting :
    (let s : State := { native with run := .waiting }
     s.run = .waiting ∧ s.nmiPending = false ∧ s.irqLines = 0) ∧
    (let s : State := { native with run := .waiting, irqLines := 1, p := 0x04 }
     s.run = .waiting ∧ s.nmiPending = false ∧ s.irqLines ≠ 0 ∧ s.flagI = true) ∧
    (let s : State := { native with run := .waiting, irqLines := 1 }
     s.run = .waiting ∧ s.nmiPending = false ∧ s.irqLines ≠ 0 ∧ s.flagI = false) ∧
    (let s : State := { native with run := .waiting, nmiPending := true }
     s.run = .waiting ∧ s.nmiPending = true) ∧
    ({ native with run := .stopped } : State).run = .stopped := by decide

/-- InterruptCheckTakesOne: its three clauses, the last one in both its ways. -/
theorem witness_interrupt_cases :
    ({ native with nmiPending := true } : State).nmiPending = true ∧
    (let s : State := { native with irqLines := 1 }
     s.nmiPending = false ∧ s.irqLines ≠ 0 ∧ s.flagI = false) ∧
    (native.nmiPending = false ∧ native.irqLines = 0) ∧
    (let s : State := { native with irqLines := 1, p := 0x04 }
     s.nmiPending = false ∧ s.irqLines ≠ 0 ∧ s.flagI = true) := by decide

/-- LineInterface: the smallest id, the largest one, and the first one outside. -/
theorem witness_line_ids :
    0 < Config.irqSources ∧ Config.extraIrqSources < Config.irqSources ∧
    Config.irqSources ≤ Config.irqSources :=
  ⟨Nat.succ_pos _, Nat.lt_succ_self _, Nat.le_refl _⟩


end Sys2Proof.Tests
end

section
/-! The status bits and the setters (00_scope.md R13; 10_state.md R28, R30 to R35). -/

namespace Sys2Proof.Machine

/-! ### Status bits and masks -/

/-- A bit of a status value is set exactly when its mask passes through `and` (R13: `CheckFlag`). -/
theorem getLsbD_iff_and_twoPow (p : Byte) {i : Nat} (hi : i < 8) :
    p.getLsbD i = true ↔ p &&& BitVec.twoPow 8 i = BitVec.twoPow 8 i := by
  have hne : 0#8 ≠ BitVec.twoPow 8 i := fun h => by
    simpa [hi] using congrArg (BitVec.getLsbD · i) h
  rw [BitVec.and_twoPow]
  cases p.getLsbD i with
  | true => simp
  | false => simp [hne]

/-- Writing a mask keeps the bits outside it. -/
theorem getLsbD_withMask_of_notMem {m : Byte} {i : Nat} (h : m.getLsbD i = false) (p : Byte)
    (b : Bool) : (withMask p m b).getLsbD i = p.getLsbD i := by
  cases b with
  | true => simp [withMask, h]
  | false =>
    have hp : p.getLsbD i = true → i < 8 := BitVec.lt_of_getLsbD
    simpa [withMask, h] using hp

/-- Writing a mask gives the written value to its bits. -/
theorem getLsbD_withMask_of_mem {m : Byte} {i : Nat} (h : m.getLsbD i = true) (p : Byte)
    (b : Bool) : (withMask p m b).getLsbD i = b := by
  cases b <;> simp [withMask, h]

/-! ### The tests of `SetNZ` at a width -/

/-- `v[w-1:0]` as a number (R8). -/
theorem trunc_toNat (w : Width) (v : Word) : (trunc w v).toNat = v.toNat % 2 ^ bitsOf w := by
  cases w with
  | w8 => simp [trunc, zext, bitsOf, word_toNat, lo_toNat]
  | w16 => exact (Nat.mod_eq_of_lt v.isLt).symm

/-- `v[w-1:0] = 0` on numbers (R13). -/
theorem isZero_eq_decide (w : Width) (v : Word) :
    isZero w v = decide (v.toNat % 2 ^ bitsOf w = 0) := by
  rw [← trunc_toNat, isZero, beq_eq_decide]
  exact decide_eq_decide.mpr BitVec.toNat_eq

/-- `msb_w(v)` is bit `w-1` (R9). -/
theorem msb_eq_getLsbD (w : Width) (v : Word) : msb w v = v.getLsbD (bitsOf w - 1) := by
  cases w <;> rfl

/-- A value whose low `w` bits are zero has bit `w-1` clear, so `SetNZ` never sets `Z` and `N` together. -/
theorem getLsbD_top_of_mod_eq_zero {w : Width} {v : Word} (h : v.toNat % 2 ^ bitsOf w = 0) :
    v.getLsbD (bitsOf w - 1) = false := by
  have htop : bitsOf w - 1 < bitsOf w := by cases w <;> decide
  have hbit : (v.toNat % 2 ^ bitsOf w).testBit (bitsOf w - 1) = false := by simp [h]
  simpa [Nat.testBit_mod_two_pow, htop, BitVec.getLsbD] using hbit

theorem withNZ_bitZ (p : Byte) (w : Width) (v : Word) :
    (withNZ p w v).getLsbD 1 = decide (v.toNat % 2 ^ bitsOf w = 0) := by
  rw [withNZ, getLsbD_withMask_of_notMem (by decide), getLsbD_withMask_of_mem (by decide)]

theorem withNZ_bitN (p : Byte) (w : Width) (v : Word) :
    (withNZ p w v).getLsbD 7 = v.getLsbD (bitsOf w - 1) := by
  rw [withNZ, getLsbD_withMask_of_mem (by decide)]

/-! ### Flag writes under the invariants -/

/-- The invariants ask of `P` only its `M` and `X` bits (R37). -/
theorem State.Inv.with_p {s : State} (h : s.Inv) {p : Byte} (hx : p.getLsbD 4 = s.p.getLsbD 4)
    (hm : p.getLsbD 5 = s.p.getLsbD 5) : ({ s with p := p } : State).Inv where
  emulationFlags he := ⟨hm.trans (h.emulationFlags he).1, hx.trans (h.emulationFlags he).2⟩
  indexHigh hb := h.indexHigh (hx.symm.trans hb)
  emulationStack := h.emulationStack
  memoryCanonical := h.memoryCanonical
  linesInRange := h.linesInRange

/-- Writing flags whose mask holds neither `M` nor `X` writes only `P` (R13, R34). -/
theorem setFlag_of_inv {s : State} (h : s.Inv) {m : Byte} (hx : m.getLsbD 4 = false)
    (hm : m.getLsbD 5 = false) (b : Bool) :
    s.setFlag m b = { s with p := withMask s.p m b } :=
  setP_of_inv h (getLsbD_withMask_of_notMem hx _ b) (getLsbD_withMask_of_notMem hm _ b)

/-- A flag write whose mask holds neither `M` nor `X` keeps the invariants. -/
theorem State.Inv.setFlag {s : State} (h : s.Inv) {m : Byte} (hx : m.getLsbD 4 = false)
    (hm : m.getLsbD 5 = false) (b : Bool) : (s.setFlag m b).Inv := by
  rw [setFlag_of_inv h hx hm]
  exact h.with_p (getLsbD_withMask_of_notMem hx _ b) (getLsbD_withMask_of_notMem hm _ b)

/-- `SetNZ` writes only `P` (R13). -/
theorem setNZ_of_inv {s : State} (h : s.Inv) (w : Width) (v : Word) :
    s.setNZ w v = { s with p := withNZ s.p w v } := by
  have hz : (s.setFlag maskZ (isZero w v)).Inv := h.setFlag (by decide) (by decide) _
  rw [State.setNZ, setFlag_of_inv hz (by decide) (by decide),
    setFlag_of_inv h (by decide) (by decide), withNZ, isZero_eq_decide, msb_eq_getLsbD]

/-! ### The setters -/

/-- Emulation mode forces the X bit, so an index value is narrowed (R22, R34). -/
@[simp] theorem narrowIndex_forceMX_true (p : Byte) (v : Word) :
    narrowIndex (forceMX true p) v = word 0x00 (lo v) := by
  simp [narrowIndex, forceMX, maskM, maskX]

/-- Entering emulation mode applies every invariant of R37 at once (R35). -/
theorem setE_true (s : State) : s.setE true = { s with
    e := true
    p := s.p ||| (maskM ||| maskX)
    x := word 0x00 (lo s.x)
    y := word 0x00 (lo s.y)
    sp := word 0x01 (lo s.sp) } := by
  rw [← narrowIndex_forceMX_true s.p, ← narrowIndex_forceMX_true s.p s.y]
  rfl

/-- Settles O8: `SetNZ` through the flag writes under the invariants, the flag tests through their masks,
and the other setters by their equations. -/
theorem settersKeepWidths : Obligations.SettersKeepWidths := by
  unfold Obligations.SettersKeepWidths
  refine ⟨fun s w v h => ?setNZ, fun s m => ⟨rfl, rfl⟩, fun s => ?flags, fun s v b => ?setters⟩
  case setNZ =>
    rw [setNZ_of_inv h]
    refine ⟨rfl, withNZ_bitZ _ w v, withNZ_bitN _ w v, ?_⟩
    rw [State.flagZ, State.flagN, withNZ_bitZ, withNZ_bitN, decide_eq_true_eq]
    rintro ⟨hz, hn⟩
    exact absurd (getLsbD_top_of_mod_eq_zero hz) (by simp [hn])
  case flags =>
    have test (i : Fin 8) := getLsbD_iff_and_twoPow s.p i.isLt
    exact ⟨test 0, test 1, test 2, test 3, test 4, test 5, test 6, test 7⟩
  case setters => exact ⟨rfl, rfl, rfl, rfl, rfl, rfl, rfl, setE_true s⟩

end Sys2Proof.Machine
end

section
/-! The footprint of the shared operations: what each of them can write, and that each keeps the invariants
(10_state.md R20, R37, R38). -/

namespace Sys2Proof.Machine

/-! ### The parts of the state, and their writers -/

/-- The flags of `P` (R28). -/
inductive StatusFlag where
  | c | z | i | d | x | m | v | n

/-- The bit of `P` that holds a flag (R28). -/
def StatusFlag.bit : StatusFlag → Nat
  | .c => 0
  | .z => 1
  | .i => 2
  | .d => 3
  | .x => 4
  | .m => 5
  | .v => 6
  | .n => 7

/-- The mask of a flag (R28). -/
def StatusFlag.mask (f : StatusFlag) : Byte := BitVec.twoPow 8 f.bit

/-- The parts of the state that an instruction can be asked to leave alone: the registers, with `P` flag by
flag, the run state and memory (R20, R38). -/
inductive Component where
  | a | x | y | sp | d | dbr | k | pc | e | run | mem
  | flag (f : StatusFlag)

/-- The component is in `t` as it is in `s`. -/
def Component.Same (s t : State) : Component → Prop
  | .a => t.a = s.a
  | .x => t.x = s.x
  | .y => t.y = s.y
  | .sp => t.sp = s.sp
  | .d => t.d = s.d
  | .dbr => t.dbr = s.dbr
  | .k => t.k = s.k
  | .pc => t.pc = s.pc
  | .e => t.e = s.e
  | .run => t.run = s.run
  | .mem => t.mem = s.mem
  | .flag f => t.p.getLsbD f.bit = s.p.getLsbD f.bit

/-- The operations that write a flag (R38). -/
def StatusFlag.writers : StatusFlag → List Op
  | .c => [.adc, .sbc, .cmp, .cpx, .cpy, .asl, .lsr, .rol, .ror, .clc, .sec, .xce, .rep, .sep, .plp, .rti]
  | .z => [.adc, .sbc, .cmp, .cpx, .cpy, .and, .ora, .eor, .bit, .tsb, .trb, .inc, .dec, .inx, .iny, .dex,
      .dey, .asl, .lsr, .rol, .ror, .lda, .ldx, .ldy, .pla, .plx, .ply, .plb, .pld, .tax, .tay, .txa,
      .tya, .txy, .tyx, .tsx, .tcd, .tdc, .tsc, .xba, .rep, .sep, .plp, .rti]
  | .n => [.adc, .sbc, .cmp, .cpx, .cpy, .and, .ora, .eor, .bit, .inc, .dec, .inx, .iny, .dex, .dey, .asl,
      .lsr, .rol, .ror, .lda, .ldx, .ldy, .pla, .plx, .ply, .plb, .pld, .tax, .tay, .txa, .tya, .txy,
      .tyx, .tsx, .tcd, .tdc, .tsc, .xba, .rep, .sep, .plp, .rti]
  | .v => [.adc, .sbc, .bit, .clv, .rep, .sep, .plp, .rti]
  | .i => [.cli, .sei, .rep, .sep, .plp, .rti, .brk, .cop]
  | .d => [.cld, .sed, .rep, .sep, .plp, .rti, .brk, .cop]
  | .x => [.rep, .sep, .plp, .rti, .xce]
  | .m => [.rep, .sep, .plp, .rti, .xce]

/-- The operations that write a component, in the forms of the opcode map (R20, R38). -/
def Component.writers : Component → List Op
  | .a => [.adc, .sbc, .and, .ora, .eor, .lda, .inc, .dec, .asl, .lsr, .rol, .ror, .pla, .txa, .tya, .tsc,
      .tdc, .xba, .mvn, .mvp]
  | .x => [.ldx, .inx, .dex, .plx, .tax, .tyx, .tsx, .mvn, .mvp, .sep, .plp, .rti, .xce]
  | .y => [.ldy, .iny, .dey, .ply, .tay, .txy, .mvn, .mvp, .sep, .plp, .rti, .xce]
  | .sp => [.pha, .phx, .phy, .php, .phb, .phd, .phk, .pla, .plx, .ply, .plp, .plb, .pld, .pea, .pei, .per,
      .jsr, .jsl, .rts, .rtl, .rti, .brk, .cop, .txs, .tcs, .xce]
  | .d => [.tcd, .pld]
  | .dbr => [.plb, .mvn, .mvp]
  | .k => [.jml, .jsl, .rtl, .rti, .brk, .cop]
  | .pc => [.bcc, .bcs, .beq, .bne, .bmi, .bpl, .bvc, .bvs, .bra, .brl, .jmp, .jml, .jsr, .jsl, .rts, .rtl,
      .rti, .brk, .cop, .mvn, .mvp]
  | .e => [.xce]
  | .run => [.wai, .stp]
  | .mem => [.sta, .stx, .sty, .stz, .tsb, .trb, .inc, .dec, .asl, .lsr, .rol, .ror, .pha, .phx, .phy, .php,
      .phb, .phd, .phk, .pea, .pei, .per, .jsr, .jsl, .brk, .cop, .mvn, .mvp]
  | .flag f => f.writers

/-- From a state that meets the invariants, going from `s` to `t` keeps them and writes no component outside
`l`. -/
def State.WritesOnly (s t : State) (l : List Component) : Prop :=
  s.Inv → t.Inv ∧ ∀ c, c ∉ l → c.Same s t

theorem Component.Same.trans {s t u : State} {c : Component} (h : c.Same s t) (h' : c.Same t u) :
    c.Same s u := by
  cases c <;> exact Eq.trans h' h

namespace State.WritesOnly

theorem refl (s : State) : s.WritesOnly s [] := fun h =>
  ⟨h, fun c _ => by cases c <;> rfl⟩

/-- Footprints add up along a sequence of operations. -/
theorem trans {s t u : State} {l l' : List Component} (h : s.WritesOnly t l) (h' : t.WritesOnly u l') :
    s.WritesOnly u (l ++ l') := fun hs => by
  obtain ⟨ht, hst⟩ := h hs
  obtain ⟨hu, htu⟩ := h' ht
  refine ⟨hu, fun c hc => ?_⟩
  rw [List.mem_append, not_or] at hc
  exact (hst c hc.1).trans (htu c hc.2)

theorem mono {s t : State} {l l' : List Component} (h : s.WritesOnly t l) (hl : l ⊆ l') :
    s.WritesOnly t l' := fun hs =>
  ⟨(h hs).1, fun c hc => (h hs).2 c fun hmem => hc (hl hmem)⟩

end State.WritesOnly

/-! ### The invariants under the updates they speak of -/

/-- The invariants ask of a state only `P`, `E`, the index registers, `S`, memory and the lines (R37, R39). -/
theorem State.Inv.congr {s t : State} (h : s.Inv) (hp : t.p = s.p) (he : t.e = s.e) (hx : t.x = s.x)
    (hy : t.y = s.y) (hsp : t.sp = s.sp) (hmem : t.mem = s.mem) (hirq : t.irqLines = s.irqLines) :
    t.Inv where
  emulationFlags := by simpa only [State.flagM, State.flagX, hp, he] using h.emulationFlags
  indexHigh := by simpa only [State.flagX, hp, hx, hy] using h.indexHigh
  emulationStack := by simpa only [he, hsp] using h.emulationStack
  memoryCanonical := hmem ▸ h.memoryCanonical
  linesInRange := hirq ▸ h.linesInRange

theorem StatusFlag.bit_injective {f g : StatusFlag} (h : f.bit = g.bit) : f = g := by
  cases f <;> cases g <;> cases h <;> rfl

/-- The mask of a flag holds no other flag (R28). -/
theorem StatusFlag.getLsbD_mask {f g : StatusFlag} (h : g ≠ f) : f.mask.getLsbD g.bit = false := by
  have hbit : f.bit ≠ g.bit := fun hb => h (StatusFlag.bit_injective hb.symm)
  simp [StatusFlag.mask, BitVec.getLsbD_twoPow, hbit]

/-- With the X bit set an index value has no high byte (R22). -/
theorem hi_narrowIndex {p : Byte} (h : p.getLsbD 4 = true) (v : Word) : hi (narrowIndex p v) = 0 := by
  simp [narrowIndex, h]

/-- In emulation mode a clamped stack pointer is in page 1 (R33). -/
theorem hi_clampStack {e : Bool} (h : e = true) (v : Word) : hi (clampStack e v) = 0x01 := by
  simp [clampStack, h]

/-- Emulation mode forces `M` and `X` (R34). -/
theorem forceMX_true_bits (p : Byte) :
    (forceMX true p).getLsbD 5 = true ∧ (forceMX true p).getLsbD 4 = true := by
  simp [forceMX, maskM, maskX]

/-- Forcing `M` and `X` leaves the other flags (R34). -/
theorem forceMX_getLsbD (e : Bool) (p : Byte) {f : StatusFlag} (hm : f ≠ .m) (hx : f ≠ .x) :
    (forceMX e p).getLsbD f.bit = p.getLsbD f.bit := by
  cases e with
  | false => rfl
  | true => cases f <;> simp_all [forceMX, maskM, maskX, StatusFlag.bit]

/-! ### The setters -/

theorem setA_writesOnly (s : State) (w : Width) (v : Word) : s.WritesOnly (s.setA w v) [.a] := fun h =>
  ⟨h.congr rfl rfl rfl rfl rfl rfl rfl, fun c hc => by
    cases c with
    | a => simp at hc
    | _ => rfl⟩

theorem setX_writesOnly (s : State) (v : Word) : s.WritesOnly (s.setX v) [.x] := fun h =>
  ⟨{ h with indexHigh := fun hb => ⟨hi_narrowIndex hb v, (h.indexHigh hb).2⟩ }, fun c hc => by
    cases c with
    | x => simp at hc
    | _ => rfl⟩

theorem setY_writesOnly (s : State) (v : Word) : s.WritesOnly (s.setY v) [.y] := fun h =>
  ⟨{ h with indexHigh := fun hb => ⟨(h.indexHigh hb).1, hi_narrowIndex hb v⟩ }, fun c hc => by
    cases c with
    | y => simp at hc
    | _ => rfl⟩

theorem setSP_writesOnly (s : State) (v : Word) : s.WritesOnly (s.setSP v) [.sp] := fun h =>
  ⟨{ h with emulationStack := fun he => hi_clampStack he v }, fun c hc => by
    cases c with
    | sp => simp at hc
    | _ => rfl⟩

/-- Every flag of `P`. -/
def StatusFlag.all : List Component :=
  [.flag .c, .flag .z, .flag .i, .flag .d, .flag .x, .flag .m, .flag .v, .flag .n]

theorem StatusFlag.mem_all (f : StatusFlag) : .flag f ∈ StatusFlag.all := by
  cases f <;> simp [StatusFlag.all]

/-- `SetP` in general: any flag, and the index registers where the X bit comes to be set (R34). -/
theorem setP_writesOnly (s : State) (v : Byte) :
    s.WritesOnly (s.setP v) (.x :: .y :: StatusFlag.all) := fun h =>
  ⟨{ h with
      emulationFlags := fun he => by
        have he' : s.e = true := he
        simpa [State.flagM, State.flagX, he'] using forceMX_true_bits v
      indexHigh := fun hb => ⟨hi_narrowIndex hb s.x, hi_narrowIndex hb s.y⟩ },
    fun c hc => by
      cases c with
      | x | y => simp at hc
      | flag f => simp [StatusFlag.mem_all] at hc
      | _ => rfl⟩

/-- A `SetP` that does not turn the X bit on leaves the index registers (R34, R37). -/
theorem setP_writesOnly_flags (s : State) {v : Byte} (hv : v.getLsbD 4 = true → s.flagX = true) :
    s.WritesOnly (s.setP v) StatusFlag.all := fun h => by
  have hX : (forceMX s.e v).getLsbD 4 = true → s.flagX = true := by
    cases he : s.e with
    | false => exact hv
    | true => exact fun _ => (h.emulationFlags he).2
  refine ⟨(setP_writesOnly s v h).1, fun c hc => ?_⟩
  cases c with
  | x => exact narrowIndex_of_inv fun hb => (h.indexHigh (hX hb)).1
  | y => exact narrowIndex_of_inv fun hb => (h.indexHigh (hX hb)).2
  | flag f => exact absurd f.mem_all hc
  | _ => rfl

/-- A `SetP` that keeps `M`, `X` and every flag outside `fs` writes the flags `fs` only (R34, R37). -/
theorem setP_writesOnly_of_agree (s : State) {v : Byte} (fs : List StatusFlag)
    (hm : .m ∉ fs) (hx : .x ∉ fs)
    (hv : ∀ f, f ∉ fs → v.getLsbD f.bit = s.p.getLsbD f.bit) :
    s.WritesOnly (s.setP v) (fs.map .flag) := fun h => by
  rw [setP_of_inv h (hv .x hx) (hv .m hm)]
  refine ⟨h.with_p (hv .x hx) (hv .m hm), fun c hc => ?_⟩
  cases c with
  | flag f => exact hv f fun hf => hc (List.mem_map_of_mem hf)
  | _ => rfl

/-- Writing one flag other than `M` and `X` writes no other component (R13). -/
theorem setFlag_writesOnly (s : State) (f : StatusFlag) (b : Bool) (hm : .m ≠ f := by nofun)
    (hx : .x ≠ f := by nofun) : s.WritesOnly (s.setFlag f.mask b) [.flag f] :=
  setP_writesOnly_of_agree s [f] (by simpa using hm) (by simpa using hx) fun _ hg =>
    getLsbD_withMask_of_notMem (StatusFlag.getLsbD_mask (by simpa using hg)) s.p b

theorem setNZ_writesOnly (s : State) (w : Width) (v : Word) :
    s.WritesOnly (s.setNZ w v) [.flag .z, .flag .n] :=
  (setFlag_writesOnly s .z _).trans (setFlag_writesOnly _ .n _)

/-- A write of `A` that sets `N` and `Z` (R30, R13). -/
theorem setA_setNZ_writesOnly (s : State) (w' : Width) (v : Word) (w : Width) (u : Word) :
    s.WritesOnly ((s.setA w' v).setNZ w u) [.a, .flag .z, .flag .n] :=
  (setA_writesOnly s w' v).trans (setNZ_writesOnly _ w u)

/-- A write of `X` that sets `N` and `Z` (R31, R13). -/
theorem setX_setNZ_writesOnly (s : State) (v : Word) (w : Width) (u : Word) :
    s.WritesOnly ((s.setX v).setNZ w u) [.x, .flag .z, .flag .n] :=
  (setX_writesOnly s v).trans (setNZ_writesOnly _ w u)

/-- A write of `Y` that sets `N` and `Z` (R32, R13). -/
theorem setY_setNZ_writesOnly (s : State) (v : Word) (w : Width) (u : Word) :
    s.WritesOnly ((s.setY v).setNZ w u) [.y, .flag .z, .flag .n] :=
  (setY_writesOnly s v).trans (setNZ_writesOnly _ w u)

/-- `SetE` (R35): the mode, and what emulation mode forces. -/
theorem setE_writesOnly (s : State) (b : Bool) :
    s.WritesOnly (s.setE b) [.e, .x, .y, .sp, .flag .x, .flag .m] := fun h => by
  refine ⟨?_, fun c hc => ?_⟩
  · cases b with
    | false => exact { h with emulationFlags := nofun, emulationStack := nofun }
    | true =>
      exact { h with
        emulationFlags := fun _ => forceMX_true_bits s.p
        indexHigh := fun hb => ⟨hi_narrowIndex hb s.x, hi_narrowIndex hb s.y⟩
        emulationStack := fun _ => hi_clampStack rfl s.sp }
  · cases c with
    | flag f => exact forceMX_getLsbD b s.p (by rintro rfl; simp at hc) (by rintro rfl; simp at hc)
    | e | x | y | sp => simp at hc
    | _ => rfl

/-! ### Updates of one field -/

theorem with_a_writesOnly (s : State) (v : Word) : s.WritesOnly { s with a := v } [.a] :=
  setA_writesOnly s .w16 v

theorem with_d_writesOnly (s : State) (v : Word) : s.WritesOnly { s with d := v } [.d] := fun h =>
  ⟨h.congr rfl rfl rfl rfl rfl rfl rfl, fun c hc => by
    cases c with
    | d => simp at hc
    | _ => rfl⟩

theorem with_dbr_writesOnly (s : State) (v : Byte) : s.WritesOnly { s with dbr := v } [.dbr] := fun h =>
  ⟨h.congr rfl rfl rfl rfl rfl rfl rfl, fun c hc => by
    cases c with
    | dbr => simp at hc
    | _ => rfl⟩

theorem with_k_writesOnly (s : State) (v : Byte) : s.WritesOnly { s with k := v } [.k] := fun h =>
  ⟨h.congr rfl rfl rfl rfl rfl rfl rfl, fun c hc => by
    cases c with
    | k => simp at hc
    | _ => rfl⟩

theorem with_pc_writesOnly (s : State) (v : Word) : s.WritesOnly { s with pc := v } [.pc] := fun h =>
  ⟨h.congr rfl rfl rfl rfl rfl rfl rfl, fun c hc => by
    cases c with
    | pc => simp at hc
    | _ => rfl⟩

theorem with_run_writesOnly (s : State) (v : RunState) : s.WritesOnly { s with run := v } [.run] :=
  fun h => ⟨h.congr rfl rfl rfl rfl rfl rfl rfl, fun c hc => by
    cases c with
    | run => simp at hc
    | _ => rfl⟩

theorem jump_writesOnly (s : State) (t : Word) : s.WritesOnly (s.jump t) [.pc] :=
  with_pc_writesOnly s t

theorem with_k_pc_writesOnly (s : State) (b : Byte) (v : Word) :
    s.WritesOnly { s with k := b, pc := v } [.k, .pc] :=
  (with_k_writesOnly s b).trans (with_pc_writesOnly _ v)

theorem jumpLong_writesOnly (s : State) (t : Addr) : s.WritesOnly (s.jumpLong t) [.k, .pc] :=
  with_k_pc_writesOnly s (bankOf t) (offsetOf t)

/-! ### The bus -/

/-- Memory stays canonical under the writes of any accesses. -/
theorem writesOf_wf (l : List Access) {mem : List Host.Cell} (h : Memory.wf mem = true) :
    Memory.wf (writesOf mem l) = true := by
  induction l generalizing mem with
  | nil => exact h
  | cons acc rest ih =>
    cases acc with
    | read c a v => exact ih h
    | write c a v => exact ih (Memory.wf_write a v h)

/-- Accesses write memory and no register, whatever the lines do meanwhile (R51, R283). -/
theorem accessed_writesOnly (s : State) (l : List Access) : s.WritesOnly (s.accessed l) [.mem] :=
  fun h =>
    ⟨{ h with
        memoryCanonical := writesOf_wf l h.memoryCanonical
        linesInRange := onIrq_foldl_lt _ h.linesInRange },
      fun c hc => by
        cases c with
        | mem => simp at hc
        | _ => rfl⟩

/-- Reads write nothing (R51). -/
theorem accessed_reads_writesOnly (s : State) {l : List Access} (hl : l.all Access.isRead = true) :
    s.WritesOnly (s.accessed l) [] := fun h => by
  obtain ⟨hinv, hsame⟩ := accessed_writesOnly s l h
  refine ⟨hinv, fun c _ => ?_⟩
  cases c with
  | mem => exact writesOf_reads hl s.mem
  | _ => rfl

theorem read8_writesOnly (s : State) (c : AccessKind) (a : Addr) : s.WritesOnly (s.read8 c a).2 [] := by
  rw [State.read8_eq]
  exact accessed_reads_writesOnly s rfl

theorem write8_writesOnly (s : State) (c : AccessKind) (a : Addr) (v : Byte) :
    s.WritesOnly (s.write8 c a v) [.mem] := by
  rw [State.write8_eq]
  exact accessed_writesOnly s _

theorem read16_writesOnly (s : State) (a0 a1 : Addr) : s.WritesOnly (s.read16 a0 a1).2 [] := by
  rw [State.read16_eq]
  exact accessed_reads_writesOnly s rfl

theorem read24_writesOnly (s : State) (a0 a1 a2 : Addr) : s.WritesOnly (s.read24 a0 a1 a2).2 [] := by
  rw [State.read24_eq]
  exact accessed_reads_writesOnly s rfl

/-! ### The stack -/

theorem push8_writesOnly (s : State) (v : Byte) : s.WritesOnly (s.push8 v) [.mem, .sp] :=
  (write8_writesOnly s .data _ v).trans (setSP_writesOnly _ (s.sp - 1))

theorem push16_writesOnly (s : State) (v : Word) : s.WritesOnly (s.push16 v) [.mem, .sp] :=
  ((push8_writesOnly s (hi v)).trans (push8_writesOnly _ (lo v))).mono (by simp)

theorem pushW_writesOnly (s : State) (w : Width) (v : Word) : s.WritesOnly (s.pushW w v) [.mem, .sp] := by
  cases w with
  | w8 => exact push8_writesOnly s (lo v)
  | w16 => exact push16_writesOnly s v

theorem pull8_writesOnly (s : State) : s.WritesOnly s.pull8.2 [.sp] :=
  (setSP_writesOnly s (s.sp + 1)).trans (read8_writesOnly _ .data _)

theorem pull16_writesOnly (s : State) : s.WritesOnly s.pull16.2 [.sp] :=
  ((pull8_writesOnly s).trans (pull8_writesOnly _)).mono (by simp)

theorem pullW_writesOnly (s : State) (w : Width) : s.WritesOnly (s.pullW w).2 [.sp] := by
  cases w with
  | w8 => exact pull8_writesOnly s
  | w16 => exact pull16_writesOnly s

/-! ### Interrupt entry and return -/

theorem pushBank_writesOnly (s : State) : s.WritesOnly s.pushBank [.mem, .sp] := by
  unfold State.pushBank
  split
  · exact (State.WritesOnly.refl s).mono (by simp)
  · exact push8_writesOnly s s.k

/-- An entry's `P` differs from the one before in `I` and `D` (R286). -/
theorem enter_p_agrees (p : Byte) {f : StatusFlag} (hf : f ∉ [StatusFlag.i, .d]) :
    ((p ||| maskI) &&& ~~~maskD).getLsbD f.bit = p.getLsbD f.bit := by
  cases f <;> simp_all [maskI, maskD, StatusFlag.bit]

theorem enter_writesOnly (s : State) (cause : EntryCause) (v : Word) :
    s.WritesOnly (s.enter cause v) [.mem, .sp, .flag .i, .flag .d, .k, .pc] := by
  have pushes : s.WritesOnly ((s.pushBank.push16 s.pc).push8 (s.pushedP cause)) [.mem, .sp] :=
    (((pushBank_writesOnly s).trans (push16_writesOnly _ s.pc)).trans (push8_writesOnly _ _)).mono
      (by simp)
  have masks (t : State) : t.WritesOnly (t.setP ((t.p ||| maskI) &&& ~~~maskD)) [.flag .i, .flag .d] :=
    setP_writesOnly_of_agree t [.i, .d] nofun nofun fun _ => enter_p_agrees t.p
  exact (((pushes.trans (masks _)).trans (with_k_writesOnly _ 0x00)).trans
    (read16_writesOnly _ _ _)).trans (with_pc_writesOnly _ _)

/-- What a return from interrupt can write, pull by pull: `P`, `PC` and, in native mode, `K` (R257). -/
def returnFootprint : List Component :=
  [Component.sp, .x, .y] ++ StatusFlag.all ++ [.sp, .pc] ++ [.sp, .k]

theorem returnFromInterrupt_writesOnly (s : State) :
    s.WritesOnly s.returnFromInterrupt returnFootprint := by
  have status := (pull8_writesOnly s).trans (setP_writesOnly s.pull8.2 s.pull8.1)
  have counter := status.trans ((pull16_writesOnly _).trans
    (with_pc_writesOnly _ (s.pull8.2.setP s.pull8.1).pull16.1))
  unfold State.returnFromInterrupt
  dsimp only
  split
  · exact counter.mono (List.subset_append_left _ _)
  · exact counter.trans ((pull8_writesOnly _).trans (with_k_writesOnly _ _))

/-- In emulation mode a return from interrupt pulls no bank (R257). -/
theorem returnFromInterrupt_k_of_emulation {s : State} (he : s.e = true) :
    s.returnFromInterrupt.k = s.k := by
  simp [State.returnFromInterrupt, State.pull16, State.pull8, he]

end Sys2Proof.Machine
end

section
/-! The footprint of every instruction: through its addressing mode and its operation (20_memory.md R59;
files 40 to 47), and of the fetch and the boundary around it (30_encoding.md R72). -/

namespace Sys2Proof.Machine

open State.WritesOnly (refl)

/-! ### Operands -/

theorem readMem_writesOnly (s : State) (a0 a1 : Addr) (w : Width) :
    s.WritesOnly (s.readMem a0 a1 w).2 [] := by
  cases w with
  | w8 => exact read8_writesOnly s .data a0
  | w16 => exact read16_writesOnly s a0 a1

theorem getValue_writesOnly (s : State) (o : Operand) (w : Width) :
    s.WritesOnly (s.getValue o w).2 [] := by
  cases o with
  | imm v | acc => exact refl s
  | mem a0 a1 => exact readMem_writesOnly s a0 a1 w

theorem writeMem_writesOnly (s : State) (a0 a1 : Addr) (w : Width) (v : Word) :
    s.WritesOnly (s.writeMem a0 a1 w v) [.mem] := by
  cases w with
  | w8 => exact write8_writesOnly s .data a0 (lo v)
  | w16 =>
    exact ((write8_writesOnly s .data a0 (lo v)).trans (write8_writesOnly _ .data a1 (hi v))).mono
      (by simp)

theorem writeMemRMW_writesOnly (s : State) (a0 a1 : Addr) (w : Width) (v : Word) :
    s.WritesOnly (s.writeMemRMW a0 a1 w v) [.mem] := by
  cases w with
  | w8 => exact write8_writesOnly s .data a0 (lo v)
  | w16 =>
    exact ((write8_writesOnly s .data a1 (hi v)).trans (write8_writesOnly _ .data a0 (lo v))).mono
      (by simp)

/-- The component that a store through a locator writes (R90). -/
def Operand.stored : Operand → List Component
  | .imm _ => []
  | .mem _ _ => [.mem]
  | .acc => [.a]

/-- A locator stores to memory or to `A` (R90). -/
theorem Operand.stored_subset (o : Operand) : o.stored ⊆ [.a, .mem] := by
  cases o <;> simp [Operand.stored]

theorem putValue_writesOnly (s : State) (o : Operand) (w : Width) (v : Word) :
    s.WritesOnly (s.putValue o w v) o.stored := by
  cases o with
  | imm u => exact refl s
  | mem a0 a1 => exact writeMem_writesOnly s a0 a1 w v
  | acc => exact setA_writesOnly s w v

theorem putValueRMW_writesOnly (s : State) (o : Operand) (w : Width) (v : Word) :
    s.WritesOnly (s.putValueRMW o w v) o.stored := by
  cases o with
  | imm u => exact refl s
  | mem a0 a1 => exact writeMemRMW_writesOnly s a0 a1 w v
  | acc => exact setA_writesOnly s w v

/-! ### Resolvers -/

/-- Resolving an operand reads its pointer, if it has one, and writes nothing (R59). -/
theorem resolveData_writesOnly (s : State) (m : DataMode) : s.WritesOnly (s.resolveData m).2 [] := by
  cases m with
  | dpind | dpindx | dpindy | sriy => exact read16_writesOnly s _ _
  | dpindl | dpindly => exact read24_writesOnly s _ _ _
  | _ => exact refl s

theorem resolveNear_writesOnly (s : State) (m : NearMode) : s.WritesOnly (s.resolveNear m).2 [] := by
  cases m with
  | pcabs a => exact refl s
  | absind | absindx => exact read16_writesOnly s _ _

theorem resolveFar_writesOnly (s : State) (m : FarMode) : s.WritesOnly (s.resolveFar m).2 [] := by
  cases m with
  | pcabsl al => exact refl s
  | absindl a => exact read24_writesOnly s _ _ _

/-- A store through the locator of a mode writes memory, or `A` in the accumulator mode (R90, R93). -/
theorem resolveData_stored (s : State) (m : DataMode) {c : Component}
    (hc : c ∈ (s.resolveData m).1.stored) : c = .mem ∨ c = .a ∧ m = .acc := by
  cases m with
  | acc => exact .inr ⟨List.mem_singleton.mp hc, rfl⟩
  | immM | immX | imm8 | sig | pea => exact absurd hc List.not_mem_nil
  | _ => exact .inl (List.mem_singleton.mp hc)

/-! ### Arithmetic, logic and shifts (files 41 and 43) -/

theorem setSum_writesOnly (s : State) (r : AluOut) :
    s.WritesOnly (s.setSum r) [.a, .flag .z, .flag .n, .flag .v, .flag .c] :=
  (((setA_writesOnly s s.wM r.res).trans (setNZ_writesOnly _ s.wM r.res)).trans
    (setFlag_writesOnly _ .v r.v)).trans (setFlag_writesOnly _ .c r.c)

theorem opAdc_writesOnly (s : State) (o : Operand) :
    s.WritesOnly (opAdc s o) [.a, .flag .z, .flag .n, .flag .v, .flag .c] :=
  (getValue_writesOnly s o s.wM).trans (setSum_writesOnly _ _)

theorem opSbc_writesOnly (s : State) (o : Operand) :
    s.WritesOnly (opSbc s o) [.a, .flag .z, .flag .n, .flag .v, .flag .c] :=
  (getValue_writesOnly s o s.wM).trans (setSum_writesOnly _ _)

theorem opCompare_writesOnly (s : State) (w : Width) (a : Word) (o : Operand) :
    s.WritesOnly (opCompare s w a o) [.flag .c, .flag .z, .flag .n] :=
  ((getValue_writesOnly s o w).trans (setFlag_writesOnly _ .c _)).trans (setNZ_writesOnly _ w _)

theorem opLogic_writesOnly (f : Word → Word → Word) (s : State) (o : Operand) :
    s.WritesOnly (opLogic f s o) [.a, .flag .z, .flag .n] :=
  (getValue_writesOnly s o s.wM).trans (setA_setNZ_writesOnly _ _ _ _ _)

/-- `BIT` of an immediate sets `Z` alone (R139). -/
theorem opBit_imm_writesOnly (s : State) (v : Word) : s.WritesOnly (opBit s (.imm v)) [.flag .z] :=
  setFlag_writesOnly s .z _

theorem opBit_writesOnly (s : State) (o : Operand) :
    s.WritesOnly (opBit s o) [.flag .z, .flag .n, .flag .v] := by
  have zero := (getValue_writesOnly s o s.wM).trans
    (setFlag_writesOnly (s.getValue o s.wM).2 .z (isZero s.wM (s.acc &&& (s.getValue o s.wM).1)))
  unfold opBit
  dsimp only
  split
  · exact zero.mono (by simp)
  · exact (zero.trans (setFlag_writesOnly _ .n _)).trans (setFlag_writesOnly _ .v _)

theorem opTestSet_writesOnly (f : Word → Word → Word) (s : State) (o : Operand) :
    s.WritesOnly (opTestSet f s o) (.flag .z :: o.stored) :=
  ((getValue_writesOnly s o s.wM).trans (setFlag_writesOnly _ .z _)).trans
    (putValueRMW_writesOnly _ o _ _)

theorem opStepValue_writesOnly (f : Word → Word) (s : State) (o : Operand) :
    s.WritesOnly (opStepValue f s o) [.a, .mem, .flag .z, .flag .n] :=
  ((getValue_writesOnly s o s.wM).trans ((putValueRMW_writesOnly _ o _ _).mono o.stored_subset)).trans
    (setNZ_writesOnly _ _ _)

theorem opShift_writesOnly (result : Width → Word → Bool → Word) (out : Width → Word → Bool) (s : State)
    (o : Operand) :
    s.WritesOnly (opShift result out s o) [.flag .c, .a, .mem, .flag .z, .flag .n] :=
  (((getValue_writesOnly s o s.wM).trans (setFlag_writesOnly _ .c _)).trans
    ((putValueRMW_writesOnly _ o _ _).mono o.stored_subset)).trans (setNZ_writesOnly _ _ _)

/-! ### Loads, stores and transfers (file 42) -/

theorem opLda_writesOnly (s : State) (o : Operand) :
    s.WritesOnly (opLda s o) [.a, .flag .z, .flag .n] :=
  (getValue_writesOnly s o s.wM).trans (setA_setNZ_writesOnly _ _ _ _ _)

theorem opLdx_writesOnly (s : State) (o : Operand) :
    s.WritesOnly (opLdx s o) [.x, .flag .z, .flag .n] :=
  (getValue_writesOnly s o s.wX).trans (setX_setNZ_writesOnly _ _ _ _)

theorem opLdy_writesOnly (s : State) (o : Operand) :
    s.WritesOnly (opLdy s o) [.y, .flag .z, .flag .n] :=
  (getValue_writesOnly s o s.wX).trans (setY_setNZ_writesOnly _ _ _ _)

theorem opStore_writesOnly (w : Width) (v : Word) (s : State) (o : Operand) :
    s.WritesOnly (opStore w v s o) o.stored :=
  putValue_writesOnly s o w (trunc w v)

/-- A block move after its byte is moved: `DBR`, the two offsets and the count in `A` (R182, R183). -/
def State.blockCounted (step : Word → Word) (dst : Byte) (s : State) : State :=
  ((({ s with dbr := dst }).setX (step s.x)).setY (step s.y)).setA .w16 (s.a - 1)

theorem blockCounted_writesOnly (step : Word → Word) (dst : Byte) (s : State) :
    s.WritesOnly (s.blockCounted step dst) [.dbr, .x, .y, .a] :=
  (((with_dbr_writesOnly s dst).trans (setX_writesOnly _ _)).trans (setY_writesOnly _ _)).trans
    (setA_writesOnly _ _ _)

/-- A block move: the byte, the count, and back to the instruction while bytes remain (R182, R183). -/
theorem opBlockMove_eq (step : Word → Word) (src dst : Byte) (s : State) :
    opBlockMove step src dst s =
      let r := s.read8 .data (addr src s.x)
      let t := (r.2.write8 .data (addr dst s.y) r.1).blockCounted step dst
      if t.a ≠ 0xFFFF then t.jump (t.pc - 3) else t := rfl

theorem opBlockMove_writesOnly (step : Word → Word) (src dst : Byte) (s : State) :
    s.WritesOnly (opBlockMove step src dst s) [.mem, .dbr, .x, .y, .a, .pc] := by
  have counted := ((read8_writesOnly s .data (addr src s.x)).trans
    (write8_writesOnly _ .data (addr dst s.y) (s.read8 .data (addr src s.x)).1)).trans
    (blockCounted_writesOnly step dst _)
  rw [opBlockMove_eq]
  dsimp only
  split
  · exact counted.trans (jump_writesOnly _ _)
  · exact counted.mono (by simp)

/-! ### Control transfer and the stack (files 44 and 46) -/

theorem opBranch_writesOnly (taken : Bool) (r : Byte) (s : State) :
    s.WritesOnly (opBranch taken r s) [.pc] := by
  unfold opBranch
  split
  · exact jump_writesOnly s _
  · exact (refl s).mono (by simp)

theorem opJsr_writesOnly (s : State) (t : Word) : s.WritesOnly (opJsr s t) [.mem, .sp, .pc] :=
  (push16_writesOnly s (s.pc - 1)).trans (jump_writesOnly _ t)

theorem opJsl_writesOnly (s : State) (t : Addr) : s.WritesOnly (opJsl s t) [.mem, .sp, .k, .pc] :=
  (((push8_writesOnly s s.k).trans (push16_writesOnly _ (s.pc - 1))).trans
    (jumpLong_writesOnly _ t)).mono (by simp)

theorem opPushValue_writesOnly (s : State) (o : Operand) : s.WritesOnly (opPushValue s o) [.mem, .sp] :=
  (getValue_writesOnly s o .w16).trans (push16_writesOnly _ _)

/-! ### What every instruction writes -/

/-- From `s`, instruction `i` answers a next state; it keeps the invariants and writes no component that its
operation is not listed for. A store in the accumulator mode, which the opcode map does not hold, writes `A`
besides. -/
def WritesAsListed (i : Instr) (s : State) : Prop :=
  ∃ t l, exec i s = .next t ∧ s.WritesOnly t l ∧
    ∀ c ∈ l, i.op ∈ c.writers ∨ c = .a ∧ i.hasForm = false

/-- An instruction whose footprint its operation `op` is listed for. -/
theorem WritesAsListed.of {i : Instr} {s t : State} {l : List Component} (op : Op)
    (hexec : exec i s = .next t) (h : s.WritesOnly t l) (hl : ∀ c ∈ l, op ∈ c.writers)
    (hop : i.op = op := by rfl) : WritesAsListed i s :=
  ⟨t, l, hexec, h, fun c hc => .inl (hop ▸ hl c hc)⟩

/-- The same for an operation on an operand, in every mode. -/
theorem WritesAsListed.of_onData {i : Instr} {s : State} {operate : State → Operand → State} {m : DataMode}
    {l : List Component} (op : Op) (hexec : exec i s = onData operate m s)
    (h : ∀ (u : State) o, u.WritesOnly (operate u o) l) (hl : ∀ c ∈ l, op ∈ c.writers)
    (hop : i.op = op := by rfl) : WritesAsListed i s :=
  .of op hexec ((resolveData_writesOnly s m).trans (h _ _)) hl hop

/-- The same for an operation that stores through its operand's locator, besides writing `l`. -/
theorem WritesAsListed.of_store {i : Instr} {s : State} {operate : State → Operand → State}
    (m : DataMode) (op : Op) (l : List Component)
    (h : ∀ (u : State) o, u.WritesOnly (operate u o) (l ++ o.stored))
    (hl : ∀ c ∈ .mem :: l, op ∈ c.writers) (hacc : m = .acc → i.hasForm = false)
    (hexec : exec i s = onData operate m s := by rfl)
    (hop : i.op = op := by rfl) : WritesAsListed i s := by
  refine ⟨_, _, hexec, (resolveData_writesOnly s m).trans (h _ _), fun c hc => ?_⟩
  rw [List.nil_append, List.mem_append] at hc
  obtain hc | hc := hc
  · exact .inl (hop ▸ hl c (List.mem_cons_of_mem _ hc))
  · obtain rfl | ⟨rfl, hm⟩ := resolveData_stored s m hc
    · exact .inl (hop ▸ hl .mem List.mem_cons_self)
    · exact .inr ⟨rfl, hacc hm⟩

/-- A bit of an `and` is a bit of its left side. -/
theorem getLsbD_of_and (p q : Byte) {i : Nat} (h : (p &&& q).getLsbD i = true) : p.getLsbD i = true := by
  rw [BitVec.getLsbD_and, Bool.and_eq_true] at h
  exact h.1

/-- Every instruction, through the footprint of its operation. -/
theorem writesAsListed (i : Instr) (s : State) : WritesAsListed i s := by
  cases i with
  | adc m => exact .of_onData .adc rfl opAdc_writesOnly (by decide)
  | sbc m => exact .of_onData .sbc rfl opSbc_writesOnly (by decide)
  | cmp m => exact .of_onData .cmp rfl (fun u => opCompare_writesOnly u u.wM u.acc) (by decide)
  | cpx m => exact .of_onData .cpx rfl (fun u => opCompare_writesOnly u u.wX u.idx) (by decide)
  | cpy m => exact .of_onData .cpy rfl (fun u => opCompare_writesOnly u u.wX u.idy) (by decide)
  | and m => exact .of_onData .and rfl (opLogic_writesOnly _) (by decide)
  | ora m => exact .of_onData .ora rfl (opLogic_writesOnly _) (by decide)
  | eor m => exact .of_onData .eor rfl (opLogic_writesOnly _) (by decide)
  | bit m => exact .of_onData .bit rfl opBit_writesOnly (by decide)
  | tsb m =>
    exact .of_store m .tsb [.flag .z] (opTestSet_writesOnly fun v a => v ||| a) (by decide)
      (by rintro rfl; rfl)
  | trb m =>
    exact .of_store m .trb [.flag .z] (opTestSet_writesOnly fun v a => v &&& ~~~a) (by decide)
      (by rintro rfl; rfl)
  | inc m => exact .of_onData .inc rfl (opStepValue_writesOnly _) (by decide)
  | dec m => exact .of_onData .dec rfl (opStepValue_writesOnly _) (by decide)
  | inx => exact .of .inx rfl (setX_setNZ_writesOnly s _ _ _) (by decide)
  | iny => exact .of .iny rfl (setY_setNZ_writesOnly s _ _ _) (by decide)
  | dex => exact .of .dex rfl (setX_setNZ_writesOnly s _ _ _) (by decide)
  | dey => exact .of .dey rfl (setY_setNZ_writesOnly s _ _ _) (by decide)
  | asl m => exact .of_onData .asl rfl (opShift_writesOnly _ _) (by decide)
  | lsr m => exact .of_onData .lsr rfl (opShift_writesOnly _ _) (by decide)
  | rol m => exact .of_onData .rol rfl (opShift_writesOnly _ _) (by decide)
  | ror m => exact .of_onData .ror rfl (opShift_writesOnly _ _) (by decide)
  | lda m => exact .of_onData .lda rfl opLda_writesOnly (by decide)
  | ldx m => exact .of_onData .ldx rfl opLdx_writesOnly (by decide)
  | ldy m => exact .of_onData .ldy rfl opLdy_writesOnly (by decide)
  | sta m =>
    exact .of_store m .sta [] (fun u => opStore_writesOnly u.wM u.a u) (by decide)
      (by rintro rfl; rfl)
  | stx m =>
    exact .of_store m .stx [] (fun u => opStore_writesOnly u.wX u.x u) (by decide)
      (by rintro rfl; rfl)
  | sty m =>
    exact .of_store m .sty [] (fun u => opStore_writesOnly u.wX u.y u) (by decide)
      (by rintro rfl; rfl)
  | stz m =>
    exact .of_store m .stz [] (fun u => opStore_writesOnly u.wM 0 u) (by decide)
      (by rintro rfl; rfl)
  | tax => exact .of .tax rfl (setX_setNZ_writesOnly s _ _ _) (by decide)
  | tay => exact .of .tay rfl (setY_setNZ_writesOnly s _ _ _) (by decide)
  | txa => exact .of .txa rfl (setA_setNZ_writesOnly s _ _ _ _) (by decide)
  | tya => exact .of .tya rfl (setA_setNZ_writesOnly s _ _ _ _) (by decide)
  | txy => exact .of .txy rfl (setY_setNZ_writesOnly s _ _ _) (by decide)
  | tyx => exact .of .tyx rfl (setX_setNZ_writesOnly s _ _ _) (by decide)
  | tsx => exact .of .tsx rfl (setX_setNZ_writesOnly s _ _ _) (by decide)
  | txs => exact .of .txs rfl (setSP_writesOnly s _) (by decide)
  | tcs => exact .of .tcs rfl (setSP_writesOnly s _) (by decide)
  | tsc => exact .of .tsc rfl (setA_setNZ_writesOnly s _ _ _ _) (by decide)
  | tcd => exact .of .tcd rfl ((with_d_writesOnly s s.a).trans (setNZ_writesOnly _ _ _)) (by decide)
  | tdc => exact .of .tdc rfl (setA_setNZ_writesOnly s _ _ _ _) (by decide)
  | xba => exact .of .xba rfl ((with_a_writesOnly s _).trans (setNZ_writesOnly _ _ _)) (by decide)
  | mvn dst src => exact .of .mvn rfl (opBlockMove_writesOnly _ src dst s) (by decide)
  | mvp dst src => exact .of .mvp rfl (opBlockMove_writesOnly _ src dst s) (by decide)
  | pha => exact .of .pha rfl (pushW_writesOnly s s.wM s.a) (by decide)
  | phx => exact .of .phx rfl (pushW_writesOnly s s.wX s.x) (by decide)
  | phy => exact .of .phy rfl (pushW_writesOnly s s.wX s.y) (by decide)
  | php => exact .of .php rfl (push8_writesOnly s s.p) (by decide)
  | phb => exact .of .phb rfl (push8_writesOnly s s.dbr) (by decide)
  | phd => exact .of .phd rfl (push16_writesOnly s s.d) (by decide)
  | phk => exact .of .phk rfl (push8_writesOnly s s.k) (by decide)
  | pla =>
    exact .of .pla rfl ((pullW_writesOnly s s.wM).trans (setA_setNZ_writesOnly _ _ _ _ _))
      (by decide)
  | plx =>
    exact .of .plx rfl ((pullW_writesOnly s s.wX).trans (setX_setNZ_writesOnly _ _ _ _))
      (by decide)
  | ply =>
    exact .of .ply rfl ((pullW_writesOnly s s.wX).trans (setY_setNZ_writesOnly _ _ _ _))
      (by decide)
  | plp => exact .of .plp rfl ((pull8_writesOnly s).trans (setP_writesOnly _ _)) (by decide)
  | plb =>
    exact .of .plb rfl
      (((pull8_writesOnly s).trans (with_dbr_writesOnly _ _)).trans (setNZ_writesOnly _ _ _)) (by decide)
  | pld =>
    exact .of .pld rfl
      (((pull16_writesOnly s).trans (with_d_writesOnly _ _)).trans (setNZ_writesOnly _ _ _)) (by decide)
  | pea a => exact .of_onData .pea rfl opPushValue_writesOnly (by decide)
  | pei d => exact .of_onData .pei rfl opPushValue_writesOnly (by decide)
  | per r => exact .of .per rfl (push16_writesOnly s _) (by decide)
  | rep mask => exact .of .rep rfl (setP_writesOnly_flags s (getLsbD_of_and s.p (~~~mask))) (by decide)
  | sep mask => exact .of .sep rfl (setP_writesOnly s _) (by decide)
  | xce =>
    exact .of .xce rfl ((setFlag_writesOnly s .c s.e).trans (setE_writesOnly _ _)) (by decide)
  | clc => exact .of .clc rfl (setFlag_writesOnly s .c false) (by decide)
  | cld => exact .of .cld rfl (setFlag_writesOnly s .d false) (by decide)
  | cli => exact .of .cli rfl (setFlag_writesOnly s .i false) (by decide)
  | clv => exact .of .clv rfl (setFlag_writesOnly s .v false) (by decide)
  | sec => exact .of .sec rfl (setFlag_writesOnly s .c true) (by decide)
  | sed => exact .of .sed rfl (setFlag_writesOnly s .d true) (by decide)
  | sei => exact .of .sei rfl (setFlag_writesOnly s .i true) (by decide)
  | bcc r => exact .of .bcc rfl (opBranch_writesOnly _ r s) (by decide)
  | bcs r => exact .of .bcs rfl (opBranch_writesOnly _ r s) (by decide)
  | beq r => exact .of .beq rfl (opBranch_writesOnly _ r s) (by decide)
  | bne r => exact .of .bne rfl (opBranch_writesOnly _ r s) (by decide)
  | bmi r => exact .of .bmi rfl (opBranch_writesOnly _ r s) (by decide)
  | bpl r => exact .of .bpl rfl (opBranch_writesOnly _ r s) (by decide)
  | bvc r => exact .of .bvc rfl (opBranch_writesOnly _ r s) (by decide)
  | bvs r => exact .of .bvs rfl (opBranch_writesOnly _ r s) (by decide)
  | bra r => exact .of .bra rfl (opBranch_writesOnly _ r s) (by decide)
  | brl r => exact .of .brl rfl (jump_writesOnly s _) (by decide)
  | jmp m =>
    exact .of .jmp rfl ((resolveNear_writesOnly s m).trans (jump_writesOnly _ _)) (by decide)
  | jml m =>
    exact .of .jml rfl ((resolveFar_writesOnly s m).trans (jumpLong_writesOnly _ _)) (by decide)
  | jsr m =>
    exact .of .jsr rfl ((resolveNear_writesOnly s m).trans (opJsr_writesOnly _ _)) (by decide)
  | jsl al => exact .of .jsl rfl (opJsl_writesOnly s al) (by decide)
  | rts => exact .of .rts rfl ((pull16_writesOnly s).trans (jump_writesOnly _ _)) (by decide)
  | rtl =>
    exact .of .rtl rfl
      (((pull16_writesOnly s).trans (pull8_writesOnly _)).trans (with_k_pc_writesOnly _ _ _)) (by decide)
  | rti => exact .of .rti rfl (returnFromInterrupt_writesOnly s) (by decide)
  | brk sig => exact .of .brk rfl (enter_writesOnly s _ _) (by decide)
  | cop sig => exact .of .cop rfl (enter_writesOnly s _ _) (by decide)
  | wai => exact .of .wai rfl (with_run_writesOnly s .waiting) (by decide)
  | stp => exact .of .stp rfl (with_run_writesOnly s .stopped) (by decide)
  | nop => exact .of .nop rfl (refl s) (by decide)
  | wdm sig => exact .of .wdm rfl (refl s) (by decide)

/-! ### The step around an instruction (R71, R72) -/

theorem fetch8_writesOnly (s : State) (kind : AccessKind) : s.WritesOnly (s.fetch8 kind).2 [.pc] :=
  (read8_writesOnly s kind _).trans (with_pc_writesOnly _ _)

theorem fetchOperands_writesOnly (n : Nat) : ∀ s : State, s.WritesOnly (s.fetchOperands n).2 [.pc] := by
  induction n with
  | zero => exact fun s => (refl s).mono (by simp)
  | succ n ih => exact fun s => ((fetch8_writesOnly s .operand).trans (ih _)).mono (by simp)

theorem fetchInstr_writesOnly (s : State) : s.WritesOnly s.fetchInstr.2 [.pc] :=
  ((fetch8_writesOnly s .opcodeFetch).trans (fetchOperands_writesOnly _ _)).mono (by simp)

theorem State.Inv.idle {s : State} (h : s.Inv) : s.idle.Inv :=
  { h with linesInRange := onIrq_foldl_lt _ h.linesInRange }

theorem State.Inv.exec {s t : State} {i : Instr} (h : s.Inv) (hexec : exec i s = .next t) : t.Inv := by
  obtain ⟨t', l, hexec', hwrites, -⟩ := writesAsListed i s
  cases hexec.symm.trans hexec'
  exact (hwrites h).1

theorem State.Inv.interruptCheck {s : State} (h : s.Inv) : s.interruptCheck.Inv := by
  unfold State.interruptCheck
  split
  · have hack : State.Inv { s with nmiPending := false } := h.congr rfl rfl rfl rfl rfl rfl rfl
    exact (enter_writesOnly _ _ _ hack).1
  · split
    · exact (enter_writesOnly s _ _ h).1
    · exact h

theorem State.Inv.wakeAtOnce {s : State} (h : s.Inv) : s.wakeAtOnce.Inv := by
  unfold State.wakeAtOnce
  split
  · exact (with_run_writesOnly s .running h).1
  · exact h

theorem State.Inv.boundary {s : State} (h : s.Inv) (i : Instr) : (s.boundary i).Inv := by
  have hidle : (s.spendIdle i).Inv := h.congr rfl rfl rfl rfl rfl rfl rfl
  unfold State.boundary
  split
  · exact hidle
  · exact hidle.wakeAtOnce.interruptCheck

theorem State.Inv.waitStep {s : State} (h : s.Inv) : s.waitStep.Inv := by
  unfold State.waitStep
  split
  · exact State.Inv.interruptCheck (with_run_writesOnly s .running h).1
  · exact h.idle

theorem State.Inv.runInstr {s t : State} (h : s.Inv) (i : Instr) (hrun : s.runInstr i = .next t) :
    t.Inv := by
  obtain ⟨u, -, hexec, -⟩ := writesAsListed i s
  rw [State.runInstr, hexec] at hrun
  cases hrun
  exact (h.exec hexec).boundary i

/-- Settles O10: a step is an idle cycle, the step of a waiting core, or a fetch, an instruction and its
boundary, and each of them keeps the invariants. -/
theorem stepKeepsTheInvariants : Obligations.StepKeepsTheInvariants := by
  unfold Obligations.StepKeepsTheInvariants
  intro s t h hstep
  have h0 : State.Inv { s with trace := [] } := h.congr rfl rfl rfl rfl rfl rfl rfl
  unfold step at hstep
  dsimp only at hstep
  split at hstep
  · cases hstep
    exact h0.idle
  · cases hstep
    exact h0.waitStep
  · exact State.Inv.runInstr (fetchInstr_writesOnly _ h0).1 _ hstep

/-! ### Which instructions write what (R20, R38) -/

/-- A component that the operation is not listed for is left alone, in every form of the opcode map. -/
theorem exec_same {i : Instr} {s t : State} (h : s.Inv) (hexec : exec i s = .next t) (c : Component)
    (hform : c = .a → i.hasForm = true) (hc : i.op ∉ c.writers) : c.Same s t := by
  obtain ⟨t', l, hexec', hwrites, hlisted⟩ := writesAsListed i s
  cases hexec.symm.trans hexec'
  refine (hwrites h).2 c fun hmem => ?_
  obtain hop | ⟨ha, hno⟩ := hlisted c hmem
  · exact hc hop
  · simp [hform ha] at hno

/-- Settles O13: each clause is the footprint of the instruction, and `RTI` pulls no bank in emulation mode. -/
theorem registersWrittenOnlyBy : Obligations.RegistersWrittenOnlyBy := by
  unfold Obligations.RegistersWrittenOnlyBy
  intro i s t hform h hexec
  have same (c : Component) : i.op ∉ c.writers → c.Same s t := exec_same h hexec c fun _ => hform
  refine ⟨same .a, same .x, same .y, same .sp, same .d, same .dbr, same .k, fun hop he => ?rti, same .pc,
    fun hop => same .e (by simpa [Component.writers] using hop), same .run, same .mem⟩
  case rti =>
    cases i <;> cases hop
    cases hexec
    exact returnFromInterrupt_k_of_emulation he

/-- Settles O14: each clause is the footprint of the instruction, and `BIT` of an immediate sets `Z` alone. -/
theorem flagsWrittenOnlyBy : Obligations.FlagsWrittenOnlyBy := by
  unfold Obligations.FlagsWrittenOnlyBy
  intro i s t h hexec
  have same (f : StatusFlag) : i.op ∉ f.writers → t.p.getLsbD f.bit = s.p.getLsbD f.bit :=
    exec_same h hexec (.flag f) nofun
  refine ⟨same .c, same .z, same .n, same .v, fun v hi => ?bit, same .i, same .d,
    fun hop => ⟨same .x hop, same .m hop⟩⟩
  case bit =>
    subst hi
    cases hexec
    have kept := (opBit_imm_writesOnly s (immValue v) h).2
    exact ⟨kept (.flag .n) (by simp), kept (.flag .v) (by simp)⟩

/-! ### Reset and power-on (70_reset_and_hazards.md R310, R311) -/

/-- The registers that reset sets meet the invariants whatever they held before (R45, R310). -/
theorem resetRegisters_inv {s : State} (hmem : Memory.wf s.mem = true)
    (hirq : s.irqLines < 2 ^ Config.irqSources) : s.resetRegisters.Inv where
  emulationFlags _ := by
    simp [State.flagM, State.flagX, State.resetRegisters, resetP, maskM, maskX, maskI, maskD]
  indexHigh _ := ⟨hi_word _ _, hi_word _ _⟩
  emulationStack _ := hi_word _ _
  memoryCanonical := hmem
  linesInRange := hirq

theorem resetCore_inv {s : State} (hmem : Memory.wf s.mem = true)
    (hirq : s.irqLines < 2 ^ Config.irqSources) : s.resetCore.Inv := by
  have h0 : State.Inv { s.resetRegisters with trace := [] } :=
    (resetRegisters_inv hmem hirq).congr rfl rfl rfl rfl rfl rfl rfl
  exact ((read16_writesOnly _ _ _).trans (with_pc_writesOnly _ _) h0).1

/-- Power-on is a reset with no line asserted (R311). -/
theorem powerOn_inv (w : ResetDraw) {mem : List Host.Cell} (env : List BusEvent)
    (hmem : Memory.wf mem = true) : (State.powerOn w mem env).Inv :=
  resetCore_inv hmem (Nat.two_pow_pos _)

/-- Settles O9: the reset state is a power-on, and a power-on is a reset. -/
theorem resetMeetsTheInvariants : Obligations.ResetMeetsTheInvariants := by
  unfold Obligations.ResetMeetsTheInvariants
  have hreset : State.reset = State.powerOn ResetDraw.named [] [] := by decide
  exact ⟨hreset ▸ powerOn_inv _ _ rfl, fun _ => resetCore_inv, fun w _ env => powerOn_inv w env⟩

end Sys2Proof.Machine
end

section
/-! Memory and the bus: a byte written is the byte read back (20_memory.md R50, R51), and each access is one
entry of the record and one cycle (R52). -/

namespace Sys2Proof.Machine

/-! ### Memory in canonical form -/

theorem Memory.wfFrom_cons {n a : Nat} {v : Byte} {l : List Host.Cell} :
    Memory.wfFrom n ((a, v) :: l) = true ↔
      n ≤ a ∧ a < 2 ^ 24 ∧ v ≠ Memory.unlisted ∧ Memory.wfFrom (a + 1) l = true := by
  simp [Memory.wfFrom, and_assoc]

@[simp] theorem Memory.read_nil (n : Nat) : Memory.read [] n = Memory.unlisted := rfl

@[simp] theorem Memory.read_cons (a : Nat) (v : Byte) (l : List Host.Cell) (n : Nat) :
    Memory.read ((a, v) :: l) n = if n = a then v else Memory.read l n := rfl

/-- An address below every listed one is not listed. -/
theorem Memory.read_of_lt {l : List Host.Cell} {m n : Nat} (hl : Memory.wfFrom m l = true) (hn : n < m) :
    Memory.read l n = Memory.unlisted := by
  induction l generalizing m with
  | nil => rfl
  | cons cell rest ih =>
    obtain ⟨hm, -, -, hrest⟩ := Memory.wfFrom_cons.mp hl
    rw [Memory.read_cons, if_neg (by omega)]
    exact ih hrest (by omega)

/-- An entry left out because its byte is the unlisted one reads as that byte all the same. -/
theorem Memory.read_put {a : Nat} {l : List Host.Cell} (hl : Memory.wfFrom (a + 1) l = true) (v : Byte)
    (n : Nat) : Memory.read (Memory.put a v l) n = if n = a then v else Memory.read l n := by
  unfold Memory.put
  split
  · rename_i hv
    split
    · rename_i hn
      rw [Memory.read_of_lt hl (by omega), hv]
    · rfl
  · rfl

/-- A write changes the byte at its address and no other (R51). -/
theorem Memory.read_write {l : List Host.Cell} {m : Nat} (hl : Memory.wfFrom m l = true) (a : Nat)
    (v : Byte) (n : Nat) :
    Memory.read (Memory.write l a v) n = if n = a then v else Memory.read l n := by
  induction l generalizing m with
  | nil => exact Memory.read_put rfl v n
  | cons cell rest ih =>
    obtain ⟨b, w⟩ := cell
    obtain ⟨-, hb, hw, hrest⟩ := Memory.wfFrom_cons.mp hl
    unfold Memory.write
    split
    · rename_i hab
      exact Memory.read_put (Memory.wfFrom_cons.mpr ⟨hab, hb, hw, hrest⟩) v n
    · split
      · rename_i hab
        subst hab
        rw [Memory.read_put hrest]
        by_cases hn : n = a <;> simp [hn]
      · rename_i hab
        rw [Memory.read_cons, Memory.read_cons, ih hrest]
        by_cases hn : n = b
        · simp [hn, Ne.symm hab]
        · simp [hn]

/-- Settles O16: the canonical form is kept by the model's own law, and the byte read back is
`Memory.read_write`. -/
theorem readAfterWrite : Obligations.ReadAfterWrite := by
  unfold Obligations.ReadAfterWrite
  exact fun mem a v h => ⟨Memory.wf_write a v h, Memory.read_write h a.toNat v⟩

/-! ### The bus -/

/-- A read answers the byte that the script's next entry gives (R51). -/
theorem State.read8_scripted (s : State) (ev : BusEvent) (rest : List BusEvent) {v : Byte}
    (hv : ev.answer = some v) (c : AccessKind) (a : Addr) :
    (({ s with env := ev :: rest } : State).read8 c a).1 = v := by
  simp [State.busByte, nextAnswer, hv]

/-- An idle cycle consumes the script's next entry (R52, R283). -/
theorem State.idle_eq (s : State) : s.idle = { s with
    cycles := s.cycles + 1
    env := s.env.drop 1
    nmiPending := (firstCalls s.env 1).foldl LineCall.onNmi s.nmiPending
    irqLines := (firstCalls s.env 1).foldl LineCall.onIrq s.irqLines } := by
  rw [firstCalls_one, List.drop_one, State.idle]

/-- Settles O15: a read and a write are one access each, and any byte has a script that answers it. -/
theorem busContract : Obligations.BusContract := by
  unfold Obligations.BusContract
  exact fun s c a v => ⟨s.read8_eq c a, ⟨_, s.read8_scripted ⟨some v, []⟩ [] rfl c a⟩,
    s.write8_eq c a v, rfl, rfl, s.idle_eq⟩

end Sys2Proof.Machine
end

section
/-! Reading an operand only reads (20_memory.md R59; 40_addressing.md R90). -/

namespace Sys2Proof.Machine

/-! ### Reads of data -/

/-- From `s` to `t` the core made `Data` reads and did nothing else (R51, R53). -/
def State.ReadsData (s t : State) : Prop :=
  ∃ l : List Access, t = s.accessed l ∧ l.all Access.isRead = true ∧ ∀ x ∈ l, x.kind = .data

namespace State.ReadsData

theorem refl (s : State) : s.ReadsData s :=
  ⟨[], s.accessed_nil.symm, rfl, nofun⟩

theorem trans {s t u : State} (h : s.ReadsData t) (h' : t.ReadsData u) : s.ReadsData u := by
  obtain ⟨l, rfl, hread, hdata⟩ := h
  obtain ⟨l', rfl, hread', hdata'⟩ := h'
  refine ⟨l ++ l', s.accessed_accessed l l', ?_, List.forall_mem_append.mpr ⟨hdata, hdata'⟩⟩
  rw [List.all_append, hread, hread', Bool.and_self]

/-- The reads are what was recorded since. -/
theorem recorded_isRead {s t : State} (h : s.ReadsData t) :
    (t.trace.drop s.trace.length).all Access.isRead = true := by
  obtain ⟨l, rfl, hread, -⟩ := h
  simpa [State.accessed] using hread

/-- The state after reads is determined by what was recorded since, with memory as it was (R51). -/
theorem eq_accessed {s t : State} (h : s.ReadsData t) :
    t = { s.accessed (t.trace.drop s.trace.length) with mem := s.mem } := by
  obtain ⟨l, rfl, hread, -⟩ := h
  simp [State.accessed, writesOf_reads hread]

end State.ReadsData

/-! ### The reads of an operand and of its pointer -/

theorem read8_readsData (s : State) (a : Addr) : s.ReadsData (s.read8 .data a).2 := by
  rw [State.read8_eq]
  exact ⟨_, rfl, rfl, by simp [Access.kind]⟩

theorem read16_readsData (s : State) (a0 a1 : Addr) : s.ReadsData (s.read16 a0 a1).2 :=
  (read8_readsData s a0).trans (read8_readsData _ a1)

theorem read24_readsData (s : State) (a0 a1 a2 : Addr) : s.ReadsData (s.read24 a0 a1 a2).2 :=
  ((read8_readsData s a0).trans (read8_readsData _ a1)).trans (read8_readsData _ a2)

theorem resolveData_readsData (s : State) (m : DataMode) : s.ReadsData (s.resolveData m).2 := by
  cases m with
  | dpind | dpindx | dpindy | sriy => exact read16_readsData s _ _
  | dpindl | dpindly => exact read24_readsData s _ _ _
  | _ => exact .refl s

theorem resolveNear_readsData (s : State) (m : NearMode) : s.ReadsData (s.resolveNear m).2 := by
  cases m with
  | pcabs a => exact .refl s
  | absind | absindx => exact read16_readsData s _ _

theorem resolveFar_readsData (s : State) (m : FarMode) : s.ReadsData (s.resolveFar m).2 := by
  cases m with
  | pcabsl al => exact .refl s
  | absindl a => exact read24_readsData s _ _ _

theorem getValue_readsData (s : State) (o : Operand) (w : Width) : s.ReadsData (s.getValue o w).2 := by
  cases o with
  | imm v | acc => exact .refl s
  | mem a0 a1 =>
    cases w with
    | w8 => exact read8_readsData s a0
    | w16 => exact read16_readsData s a0 a1

theorem operand_readsData (s : State) (m : DataMode) (w : Width) : s.ReadsData (s.operand m w).2 :=
  (resolveData_readsData s m).trans (getValue_readsData _ _ w)

/-! ### The width of an operand -/

@[simp] theorem trunc_zext (w : Width) (b : Byte) : trunc w (zext b) = zext b := by
  cases w <;> simp [trunc, zext]

@[simp] theorem trunc_trunc (w : Width) (v : Word) : trunc w (trunc w v) = trunc w v := by
  cases w with
  | w8 => exact trunc_zext .w8 (lo v)
  | w16 => rfl

/-- `GetValue` answers no bit above its width (R90). -/
theorem getValue_trunc (s : State) (o : Operand) (w : Width) :
    trunc w (s.getValue o w).1 = (s.getValue o w).1 := by
  cases o with
  | imm v => exact trunc_trunc w v
  | acc => exact trunc_trunc w s.a
  | mem a0 a1 =>
    cases w with
    | w8 => exact trunc_zext .w8 _
    | w16 => rfl

/-- Settles O25: the resolver and `GetValue` make `Data` reads only, and `GetValue` answers a value of its
width. -/
theorem operandReadsOnlyRead : Obligations.OperandReadsOnlyRead := by
  unfold Obligations.OperandReadsOnlyRead
  intro s m w
  have pointer := resolveData_readsData s m
  have operand := operand_readsData s m w
  exact ⟨pointer.recorded_isRead, operand.recorded_isRead, pointer.eq_accessed, operand.eq_accessed,
    (getValue_trunc _ _ w).symm⟩

end Sys2Proof.Machine
end

section
/-! Every access is accounted for: what the core did to memory, the record, the cycle count, the script and
the lines is what its accesses make of them (20_memory.md R51 to R53, R59; 60_exceptions.md R283). -/

namespace Sys2Proof.Machine

/-! ### The part of the state that accesses move -/

/-- What an access moves: memory, the record, `CycleCount`, the script and the interrupt lines. -/
def State.bus (s : State) : List Host.Cell × List Access × Nat × List BusEvent × Bool × Nat :=
  (s.mem, s.trace, s.cycles, s.env, s.nmiPending, s.irqLines)

theorem State.accounts_iff {s t : State} {l : List Access} :
    s.Accounts t l ↔ t.bus = (s.accessed l).bus := by
  constructor
  · rintro ⟨hmem, htrace, hcycles, henv, hnmi, hirq⟩
    simp only [State.bus, hmem, htrace, hcycles, henv, hnmi, hirq]
  · intro h
    simp only [State.bus, Prod.mk.injEq] at h
    obtain ⟨hmem, htrace, hcycles, henv, hnmi, hirq⟩ := h
    exact ⟨hmem, htrace, hcycles, henv, hnmi, hirq⟩

/-- What accesses make of that part depends on that part alone. -/
theorem State.bus_accessed_congr {s t : State} (h : s.bus = t.bus) (l : List Access) :
    (s.accessed l).bus = (t.accessed l).bus := by
  simp only [State.bus, Prod.mk.injEq] at h
  obtain ⟨hmem, htrace, hcycles, henv, hnmi, hirq⟩ := h
  simp only [State.bus, State.accessed, hmem, htrace, hcycles, henv, hnmi, hirq]

theorem State.Accounts.trans {s t u : State} {l l' : List Access} (h : s.Accounts t l)
    (h' : t.Accounts u l') : s.Accounts u (l ++ l') := by
  rw [State.accounts_iff] at h h' ⊢
  calc u.bus = (t.accessed l').bus := h'
    _ = ((s.accessed l).accessed l').bus := State.bus_accessed_congr h l'
    _ = (s.accessed (l ++ l')).bus := by rw [State.accessed_accessed]

/-! ### Accesses of kind `Data` -/

/-- From `s` to `t` the core made `Data` accesses and wrote registers (R53). -/
def State.AccessesData (s t : State) : Prop :=
  ∃ l, s.Accounts t l ∧ ∀ x ∈ l, x.kind = .data

namespace State.AccessesData

theorem trans {s t u : State} (h : s.AccessesData t) (h' : t.AccessesData u) : s.AccessesData u := by
  obtain ⟨l, hl, hdata⟩ := h
  obtain ⟨l', hl', hdata'⟩ := h'
  exact ⟨l ++ l', hl.trans hl', List.forall_mem_append.mpr ⟨hdata, hdata'⟩⟩

/-- Writing registers makes no access. -/
theorem of_registers {s t : State} (h : t.bus = s.bus := by rfl) : s.AccessesData t :=
  ⟨[], State.accounts_iff.mpr (by rw [h, State.accessed_nil]), nofun⟩

/-- Accesses, and registers written after them. -/
theorem registers {s t u : State} (h : s.AccessesData t) (hu : u.bus = t.bus := by rfl) :
    s.AccessesData u :=
  h.trans (of_registers hu)

end State.AccessesData

theorem State.ReadsData.accessesData {s t : State} (h : s.ReadsData t) : s.AccessesData t := by
  obtain ⟨l, rfl, -, hdata⟩ := h
  exact ⟨l, State.accounts_iff.mpr rfl, hdata⟩

/-! ### The bus and the stack -/

theorem read8_accessesData (s : State) (a : Addr) : s.AccessesData (s.read8 .data a).2 :=
  (read8_readsData s a).accessesData

theorem write8_accessesData (s : State) (a : Addr) (v : Byte) :
    s.AccessesData (s.write8 .data a v) := by
  rw [State.write8_eq]
  exact ⟨_, State.accounts_iff.mpr rfl, by simp [Access.kind]⟩

theorem push8_accessesData (s : State) (v : Byte) : s.AccessesData (s.push8 v) :=
  (write8_accessesData s _ v).registers

theorem push16_accessesData (s : State) (v : Word) : s.AccessesData (s.push16 v) :=
  (push8_accessesData s (hi v)).trans (push8_accessesData _ (lo v))

theorem pushW_accessesData (s : State) (w : Width) (v : Word) : s.AccessesData (s.pushW w v) := by
  cases w with
  | w8 => exact push8_accessesData s (lo v)
  | w16 => exact push16_accessesData s v

theorem pull8_accessesData (s : State) : s.AccessesData s.pull8.2 :=
  (State.AccessesData.of_registers (t := s.setSP (s.sp + 1))).trans (read8_accessesData _ _)

theorem pull16_accessesData (s : State) : s.AccessesData s.pull16.2 :=
  (pull8_accessesData s).trans (pull8_accessesData _)

theorem pullW_accessesData (s : State) (w : Width) : s.AccessesData (s.pullW w).2 := by
  cases w with
  | w8 => exact pull8_accessesData s
  | w16 => exact pull16_accessesData s

/-! ### Interrupt entry and return -/

theorem pushBank_accessesData (s : State) : s.AccessesData s.pushBank := by
  unfold State.pushBank
  split
  · exact .of_registers
  · exact push8_accessesData s s.k

theorem enter_accessesData (s : State) (cause : EntryCause) (v : Word) :
    s.AccessesData (s.enter cause v) := by
  have pushes : s.AccessesData ((s.pushBank.push16 s.pc).push8 (s.pushedP cause)) :=
    ((pushBank_accessesData s).trans (push16_accessesData _ s.pc)).trans (push8_accessesData _ _)
  have masks (t : State) : t.AccessesData { t.setP ((t.p ||| maskI) &&& ~~~maskD) with k := 0x00 } :=
    .of_registers
  exact ((pushes.trans (masks _)).trans
    (read16_readsData _ (addr 0x00 v) (addr 0x00 (v + 1))).accessesData).registers

theorem returnFromInterrupt_accessesData (s : State) : s.AccessesData s.returnFromInterrupt := by
  have counter : s.AccessesData (s.pull8.2.setP s.pull8.1).pull16.2 :=
    (pull8_accessesData s).registers.trans (pull16_accessesData _)
  unfold State.returnFromInterrupt
  dsimp only
  split
  · exact counter.registers
  · exact (counter.registers.trans (pull8_accessesData _)).registers

/-! ### Operands and operations -/

theorem getValue_accessesData (s : State) (o : Operand) (w : Width) :
    s.AccessesData (s.getValue o w).2 :=
  (getValue_readsData s o w).accessesData

theorem putValue_accessesData (s : State) (o : Operand) (w : Width) (v : Word) :
    s.AccessesData (s.putValue o w v) := by
  cases o with
  | imm u | acc => exact .of_registers
  | mem a0 a1 =>
    cases w with
    | w8 => exact write8_accessesData s a0 (lo v)
    | w16 => exact (write8_accessesData s a0 (lo v)).trans (write8_accessesData _ a1 (hi v))

theorem putValueRMW_accessesData (s : State) (o : Operand) (w : Width) (v : Word) :
    s.AccessesData (s.putValueRMW o w v) := by
  cases o with
  | imm u | acc => exact .of_registers
  | mem a0 a1 =>
    cases w with
    | w8 => exact write8_accessesData s a0 (lo v)
    | w16 => exact (write8_accessesData s a1 (hi v)).trans (write8_accessesData _ a0 (lo v))

theorem opCompare_accessesData (s : State) (w : Width) (a : Word) (o : Operand) :
    s.AccessesData (opCompare s w a o) :=
  (getValue_accessesData s o w).registers

theorem opBit_accessesData (s : State) (o : Operand) : s.AccessesData (opBit s o) := by
  unfold opBit
  dsimp only
  split <;> exact (getValue_accessesData s o s.wM).registers

theorem opTestSet_accessesData (f : Word → Word → Word) (s : State) (o : Operand) :
    s.AccessesData (opTestSet f s o) :=
  (getValue_accessesData s o s.wM).registers.trans (putValueRMW_accessesData _ o _ _)

theorem opStepValue_accessesData (f : Word → Word) (s : State) (o : Operand) :
    s.AccessesData (opStepValue f s o) :=
  ((getValue_accessesData s o s.wM).trans (putValueRMW_accessesData _ o _ _)).registers

theorem opShift_accessesData (result : Width → Word → Bool → Word) (out : Width → Word → Bool)
    (s : State) (o : Operand) : s.AccessesData (opShift result out s o) := by
  have shiftedOut : s.AccessesData
      ((s.getValue o s.wM).2.setFlag maskC (out s.wM (s.getValue o s.wM).1)) :=
    (getValue_accessesData s o s.wM).registers
  exact (shiftedOut.trans (putValueRMW_accessesData _ o s.wM
    (result s.wM (s.getValue o s.wM).1 s.flagC))).registers

theorem opPushValue_accessesData (s : State) (o : Operand) : s.AccessesData (opPushValue s o) :=
  (getValue_accessesData s o .w16).trans (push16_accessesData _ _)

theorem opBlockMove_accessesData (step : Word → Word) (src dst : Byte) (s : State) :
    s.AccessesData (opBlockMove step src dst s) := by
  have moved := (read8_accessesData s (addr src s.x)).trans
    (write8_accessesData _ (addr dst s.y) (s.read8 .data (addr src s.x)).1)
  rw [opBlockMove_eq]
  dsimp only
  split <;> exact moved.registers

theorem opBranch_accessesData (taken : Bool) (r : Byte) (s : State) :
    s.AccessesData (opBranch taken r s) := by
  unfold opBranch
  split <;> exact .of_registers

theorem opJsr_accessesData (s : State) (t : Word) : s.AccessesData (opJsr s t) :=
  (push16_accessesData s (s.pc - 1)).registers

theorem opJsl_accessesData (s : State) (t : Addr) : s.AccessesData (opJsl s t) :=
  ((push8_accessesData s s.k).trans (push16_accessesData _ (s.pc - 1))).registers

/-! ### Every instruction -/

/-- From `s`, instruction `i` answers a next state, and its accesses are `Data` accesses. -/
def CompletesOnData (i : Instr) (s : State) : Prop :=
  ∃ t, exec i s = .next t ∧ s.AccessesData t

/-- An instruction that only writes registers. -/
theorem CompletesOnData.of_registers {i : Instr} {s t : State} (hexec : exec i s = .next t)
    (h : t.bus = s.bus := by rfl) : CompletesOnData i s :=
  ⟨t, hexec, .of_registers h⟩

/-- An instruction that runs an operation on the operand of its mode. -/
theorem CompletesOnData.of_onData {i : Instr} {s : State} {operate : State → Operand → State}
    {m : DataMode} (hexec : exec i s = onData operate m s)
    (h : ∀ (u : State) o, u.AccessesData (operate u o)) : CompletesOnData i s :=
  ⟨_, hexec, (resolveData_readsData s m).accessesData.trans (h _ _)⟩

/-- Every instruction: registers only, an operand read and then registers, a read-modify-write or a store, the
stack, or a target. -/
theorem completesOnData (i : Instr) (s : State) : CompletesOnData i s := by
  cases i with
  | inx | iny | dex | dey | tax | tay | txa | tya | txy | tyx | tsx | txs | tcs | tsc | tcd | tdc | xba
  | rep | sep | xce | clc | cld | cli | clv | sec | sed | sei | brl | wai | stp | nop | wdm =>
    exact .of_registers rfl
  | adc | sbc | and | ora | eor | lda =>
    exact .of_onData rfl fun u o => (getValue_accessesData u o u.wM).registers
  | ldx | ldy => exact .of_onData rfl fun u o => (getValue_accessesData u o u.wX).registers
  | cmp => exact .of_onData rfl fun u => opCompare_accessesData u u.wM u.acc
  | cpx => exact .of_onData rfl fun u => opCompare_accessesData u u.wX u.idx
  | cpy => exact .of_onData rfl fun u => opCompare_accessesData u u.wX u.idy
  | bit => exact .of_onData rfl opBit_accessesData
  | tsb | trb => exact .of_onData rfl (opTestSet_accessesData _)
  | inc | dec => exact .of_onData rfl (opStepValue_accessesData _)
  | asl | lsr | rol | ror => exact .of_onData rfl (opShift_accessesData _ _)
  | sta | stx | sty | stz => exact .of_onData rfl fun _ _ => putValue_accessesData _ _ _ _
  | pea | pei => exact .of_onData rfl opPushValue_accessesData
  | brk | cop => exact ⟨_, rfl, enter_accessesData s _ _⟩
  | mvn dst src | mvp dst src => exact ⟨_, rfl, opBlockMove_accessesData _ src dst s⟩
  | pha | phx | phy => exact ⟨_, rfl, pushW_accessesData s _ _⟩
  | php | phb | phk => exact ⟨_, rfl, push8_accessesData s _⟩
  | phd | per => exact ⟨_, rfl, push16_accessesData s _⟩
  | pla | plx | ply => exact ⟨_, rfl, (pullW_accessesData s _).registers⟩
  | plp | plb => exact ⟨_, rfl, (pull8_accessesData s).registers⟩
  | pld | rts => exact ⟨_, rfl, (pull16_accessesData s).registers⟩
  | rtl => exact ⟨_, rfl, ((pull16_accessesData s).trans (pull8_accessesData _)).registers⟩
  | rti => exact ⟨_, rfl, returnFromInterrupt_accessesData s⟩
  | bcc r | bcs r | beq r | bne r | bmi r | bpl r | bvc r | bvs r | bra r =>
    exact ⟨_, rfl, opBranch_accessesData _ r s⟩
  | jmp m => exact ⟨_, rfl, (resolveNear_readsData s m).accessesData.registers⟩
  | jml m => exact ⟨_, rfl, (resolveFar_readsData s m).accessesData.registers⟩
  | jsr m => exact ⟨_, rfl, (resolveNear_readsData s m).accessesData.trans (opJsr_accessesData _ _)⟩
  | jsl al => exact ⟨_, rfl, opJsl_accessesData s al⟩

theorem exec_accessesData {i : Instr} {s t : State} (hexec : exec i s = .next t) :
    s.AccessesData t := by
  obtain ⟨t', hexec', h⟩ := completesOnData i s
  cases hexec.symm.trans hexec'
  exact h

end Sys2Proof.Machine
end

section
/-! The record of a step and of a reset: the fetches of the instruction, then `Data` accesses (20_memory.md
R52, R53, R59; 30_encoding.md R71, R72; 70_reset_and_hazards.md R310). -/

namespace Sys2Proof.Machine

/-! ### Fetching (R71) -/

/-- A fetch reads the byte at `K:PC` and moves `PC` past it (R71). -/
theorem State.fetch8_eq (s : State) (c : AccessKind) :
    s.fetch8 c = (s.codeByte 0,
      { s.accessed [.read c (addr s.k s.pc) (s.codeByte 0)] with pc := s.pc + 1 }) := by
  simp [State.fetch8, State.read8_eq, State.codeByte, State.accessed]

@[simp] theorem State.fetched_zero (s : State) : s.fetched 0 = s := by
  simp [State.fetched, State.fetches]

theorem State.fetches_succ (s : State) (n : Nat) :
    s.fetches (n + 1) = s.fetches n ++ [.read (if n = 0 then .opcodeFetch else .operand)
      (addr s.k (s.pc + BitVec.ofNat 16 n)) (s.codeByte n)] := by
  simp [State.fetches, List.range_succ]

@[simp] theorem State.length_fetches (s : State) (n : Nat) : (s.fetches n).length = n := by
  simp [State.fetches]

theorem State.fetches_isRead (s : State) (n : Nat) : (s.fetches n).all Access.isRead = true := by
  simp [State.fetches, Access.isRead]

/-- The next byte to fetch after `n` fetches is byte `n` (R27: the offset wraps inside the bank). -/
theorem State.codeByte_fetched (s : State) (n : Nat) : (s.fetched n).codeByte 0 = s.codeByte n := by
  have hanswer := State.accessed_answer (s := s) (s.fetches_isRead n) 0 (addr s.k (s.pc + .ofNat 16 n))
  rw [State.length_fetches] at hanswer
  rw [State.codeByte, BitVec.add_zero]
  exact hanswer

/-- One fetch more, of the kind its place has (R53). -/
theorem State.fetch8_fetched (s : State) (n : Nat) :
    (s.fetched n).fetch8 (if n = 0 then .opcodeFetch else .operand) =
      (s.codeByte n, s.fetched (n + 1)) := by
  rw [State.fetch8_eq, State.codeByte_fetched, State.fetched, State.fetched, State.fetches_succ,
    ← State.accessed_accessed, BitVec.ofNat_add, ← BitVec.add_assoc]
  rfl

theorem State.fetchOperands_fetched (s : State) (n j : Nat) :
    ((s.fetched (j + 1)).fetchOperands n).2 = s.fetched (j + 1 + n) := by
  induction n generalizing j with
  | zero => rfl
  | succ n ih =>
    have hfetch := s.fetch8_fetched (j + 1)
    rw [if_neg j.succ_ne_zero] at hfetch
    rw [State.fetchOperands, hfetch, ih (j + 1)]
    congr 1
    omega

/-- Fetching an instruction is its opcode and as many operand bytes as its mode has (R71, R75). -/
theorem State.fetchInstr_snd (s : State) :
    s.fetchInstr.2 = s.fetched (1 + operandCount s.flagM s.flagX (s.codeByte 0)) := by
  have hop : s.fetch8 .opcodeFetch = (s.codeByte 0, s.fetched 1) := by
    simpa using s.fetch8_fetched 0
  rw [State.fetchInstr, hop]
  exact s.fetchOperands_fetched _ 0

/-- An opcode has at most three operand bytes (R75). -/
theorem operandCount_le (m8 x8 : Bool) (op : Byte) : operandCount m8 x8 op ≤ 3 :=
  Laws.OpcodeAndLength.bytes_le _

/-! ### What a step records -/

theorem writesOf_append (mem : List Host.Cell) (l l' : List Access) :
    writesOf mem (l ++ l') = writesOf (writesOf mem l) l' :=
  List.foldl_append

/-- From `s` to `t` the core made exactly the accesses `l`, and may have spent idle cycles and acknowledged an
interrupt besides (R52, R284, R329). -/
structure State.Records (s t : State) (l : List Access) : Prop where
  memory : t.mem = writesOf s.mem l
  recorded : t.trace = s.trace ++ l
  counted : s.cycles + l.length ≤ t.cycles

namespace State.Records

theorem trans {s t u : State} {l l' : List Access} (h : s.Records t l) (h' : t.Records u l') :
    s.Records u (l ++ l') where
  memory := by rw [h'.memory, h.memory, writesOf_append]
  recorded := by rw [h'.recorded, h.recorded, List.append_assoc]
  counted := by
    have hcount := h.counted
    have hcount' := h'.counted
    rw [List.length_append]
    omega

end State.Records

theorem State.Accounts.records {s t : State} {l : List Access} (h : s.Accounts t l) :
    s.Records t l :=
  ⟨h.memory, h.recorded, h.counted.ge⟩

/-- From `s` to `t` the core made `Data` accesses, and may have spent idle cycles and acknowledged an interrupt
besides. -/
def State.RecordsData (s t : State) : Prop :=
  ∃ l, s.Records t l ∧ ∀ x ∈ l, x.kind = .data

namespace State.RecordsData

theorem trans {s t u : State} (h : s.RecordsData t) (h' : t.RecordsData u) : s.RecordsData u := by
  obtain ⟨l, hl, hdata⟩ := h
  obtain ⟨l', hl', hdata'⟩ := h'
  exact ⟨l ++ l', hl.trans hl', List.forall_mem_append.mpr ⟨hdata, hdata'⟩⟩

/-- Without an access memory and the record are as they were. -/
theorem of_no_access {s t : State} (hmem : t.mem = s.mem := by rfl) (htrace : t.trace = s.trace := by rfl)
    (hcycles : s.cycles ≤ t.cycles := by exact le_rfl) : s.RecordsData t :=
  ⟨[], ⟨hmem, by rw [htrace, List.append_nil], hcycles⟩, nofun⟩

end State.RecordsData

theorem State.AccessesData.recordsData {s t : State} (h : s.AccessesData t) : s.RecordsData t := by
  obtain ⟨l, hl, hdata⟩ := h
  exact ⟨l, hl.records, hdata⟩

theorem idle_recordsData (s : State) : s.RecordsData s.idle :=
  .of_no_access (hcycles := Nat.le_succ _)

theorem interruptCheck_recordsData (s : State) : s.RecordsData s.interruptCheck := by
  unfold State.interruptCheck
  split
  · have acknowledged : s.RecordsData { s with nmiPending := false } := .of_no_access
    exact acknowledged.trans (enter_accessesData _ _ _).recordsData
  · split
    · exact (enter_accessesData s _ _).recordsData
    · exact .of_no_access

theorem wakeAtOnce_recordsData (s : State) : s.RecordsData s.wakeAtOnce := by
  unfold State.wakeAtOnce
  split <;> exact .of_no_access

theorem boundary_recordsData (s : State) (i : Instr) : s.RecordsData (s.boundary i) := by
  have spent : s.RecordsData (s.spendIdle i) := .of_no_access (hcycles := Nat.le_add_right _ _)
  unfold State.boundary
  split
  · exact spent
  · exact (spent.trans (wakeAtOnce_recordsData _)).trans (interruptCheck_recordsData _)

theorem waitStep_recordsData (s : State) : s.RecordsData s.waitStep := by
  unfold State.waitStep
  split
  · have woken : s.RecordsData { s with run := .running } := .of_no_access
    exact woken.trans (interruptCheck_recordsData _)
  · exact idle_recordsData s

theorem runInstr_recordsData {s t : State} {i : Instr} (hrun : s.runInstr i = .next t) :
    s.RecordsData t := by
  obtain ⟨u, hexec, hdata⟩ := completesOnData i s
  rw [State.runInstr, hexec] at hrun
  cases hrun
  exact hdata.recordsData.trans (boundary_recordsData u i)

/-- A step records the fetches of its instruction, none where the core does not run, and then `Data` accesses
(R53, R72). -/
theorem step_records {s t : State} (hstep : step s = .next t) :
    ∃ n l, State.Records { s with trace := [] } t (s.fetches n ++ l) ∧ (∀ x ∈ l, x.kind = .data) ∧
      if s.run = .running then 1 ≤ n ∧ n ≤ 4 else n = 0 := by
  unfold step at hstep
  dsimp only at hstep
  split at hstep
  case h_1 hrun =>
    cases hstep
    obtain ⟨l, hl, hdata⟩ := idle_recordsData { s with trace := [] }
    exact ⟨0, l, hl, hdata, by simp [hrun]⟩
  case h_2 hrun =>
    cases hstep
    obtain ⟨l, hl, hdata⟩ := waitStep_recordsData { s with trace := [] }
    exact ⟨0, l, hl, hdata, by simp [hrun]⟩
  case h_3 hrun =>
    obtain ⟨l, hl, hdata⟩ := runInstr_recordsData hstep
    rw [State.fetchInstr_snd] at hl
    have hcount := operandCount_le s.flagM s.flagX (s.codeByte 0)
    have fetched (n : Nat) :
        State.Records { s with trace := [] } (State.fetched { s with trace := [] } n) (s.fetches n) :=
      ⟨rfl, rfl, le_rfl⟩
    refine ⟨_, l, (fetched _).trans hl, hdata, ?_⟩
    rw [if_pos hrun]
    exact ⟨Nat.le_add_right 1 _, Nat.add_le_add_left hcount 1⟩

/-! ### Reset (R310) -/

theorem resetCore_trace_data (s : State) : ∀ x ∈ s.resetCore.trace, x.kind = .data := by
  rw [State.resetCore, State.read16_eq]
  simp [State.accessed, Access.kind]

/-- Settles O17: an instruction's accesses are those of its pointer, its operand and the stack; a step adds
its fetches, its idle cycles and the interrupt check; a reset reads its vector. -/
theorem everyAccessIsAccounted : Obligations.EveryAccessIsAccounted := by
  unfold Obligations.EveryAccessIsAccounted
  refine ⟨fun i s t hexec => exec_accessesData hexec, fun s t hstep => ?step, resetCore_trace_data⟩
  case step =>
    obtain ⟨n, l, hrecords, hdata, hn⟩ := step_records hstep
    have htrace : t.trace = s.fetches n ++ l := hrecords.recorded
    rw [htrace]
    exact ⟨n, l, rfl, hdata, hn, hrecords.memory, hrecords.counted⟩

end Sys2Proof.Machine
end

section
/-! The opcode map (30_encoding.md R73, R74, R76): the instruction of an opcode is the one that the encoder gives
this opcode and whose operand bytes are the given ones; the map is the table of R76. -/

namespace Sys2Proof

open Sys2Proof.Machine

/-! ### Every opcode -/

/-- A fact about every cell of a table of 16 rows and 16 columns is one about every opcode (R76). -/
theorem forall_opcode {P : Byte → Prop}
    (cell : ∀ row < 16, ∀ col < 16, P (BitVec.ofNat 8 (16 * row + col))) (op : Byte) : P op := by
  have hop : BitVec.ofNat 8 (16 * (op.toNat / 16) + op.toNat % 16) = op := by
    rw [Nat.div_add_mod, BitVec.ofNat_toNat, BitVec.setWidth_eq]
  exact hop ▸ cell _ (by omega) _ (by omega)

/-- The encoder gives the instruction of an opcode this opcode back (R76). -/
theorem opcode_instrOf (op : Byte) (o : OperandBytes) : (instrOf op o).opcode = some op := by
  induction op using forall_opcode with
  | cell row hrow col hcol => interval_cases row <;> interval_cases col <;> rfl

/-- A mnemonic has a mode in the map exactly where the encoder gives it an opcode (R76). -/
theorem isSome_opcode (i : Instr) : i.opcode.isSome = i.hasForm := by
  cases i with
  | ora m | tsb m | asl m | trb m | inc m | jsr m | and m | bit m | rol m | dec m | eor m | lsr m | jmp m
  | jml m | adc m | stz m | ror m | sta m | sty m | stx m | ldy m | lda m | ldx m | cpy m | cmp m | cpx m
  | sbc m => cases m <;> rfl
  | _ => rfl

/-! ### The operand of a mode (R73) -/

/-- The mode with its operand taken from `o`. -/
def DataMode.withOperand (o : OperandBytes) : DataMode → DataMode
  | .acc => .acc
  | .immM _ => .immM o.immM
  | .immX _ => .immX o.immX
  | .imm8 _ => .imm8 o.b1
  | .sig _ => .sig o.b1
  | .dp _ => .dp o.b1
  | .dpx _ => .dpx o.b1
  | .dpy _ => .dpy o.b1
  | .dpind _ => .dpind o.b1
  | .dpindx _ => .dpindx o.b1
  | .dpindy _ => .dpindy o.b1
  | .dpindl _ => .dpindl o.b1
  | .dpindly _ => .dpindly o.b1
  | .abs _ => .abs o.w16
  | .absx _ => .absx o.w16
  | .absy _ => .absy o.w16
  | .absl _ => .absl o.w24
  | .abslx _ => .abslx o.w24
  | .sr _ => .sr o.b1
  | .sriy _ => .sriy o.b1
  | .pei _ => .pei o.b1
  | .pea _ => .pea o.w16

/-- The mode with its operand taken from `o`. -/
def NearMode.withOperand (o : OperandBytes) : NearMode → NearMode
  | .pcabs _ => .pcabs o.w16
  | .absind _ => .absind o.w16
  | .absindx _ => .absindx o.w16

/-- The mode with its operand taken from `o`. -/
def FarMode.withOperand (o : OperandBytes) : FarMode → FarMode
  | .pcabsl _ => .pcabsl o.w24
  | .absindl _ => .absindl o.w16

/-- The mode with its operand taken from `o`. -/
def Mode.withOperand (o : OperandBytes) : Mode → Mode
  | .data m => .data (m.withOperand o)
  | .near m => .near (m.withOperand o)
  | .far m => .far (m.withOperand o)
  | .imp => .imp
  | .stk => .stk
  | .rel8 _ => .rel8 o.b1
  | .rel16 _ => .rel16 o.w16
  | .blk _ _ => .blk o.b1 o.b2

/-- The opcode alone fixes the kind of mode; its operand is that of the bytes (R73, R76). -/
theorem mode_instrOf (op : Byte) (o o' : OperandBytes) :
    (instrOf op o).mode = (instrOf op o').mode.withOperand o := by
  induction op using forall_opcode with
  | cell row hrow col hcol => interval_cases row <;> interval_cases col <;> rfl

/-- The map holds every instruction at its opcode (R76). -/
theorem instrOf_of_opcode {i : Instr} {op : Byte} {o : OperandBytes} (hop : i.opcode = some op)
    (hmode : i.mode.withOperand o = i.mode) : instrOf op o = i := by
  cases i with
  | ora m | tsb m | asl m | trb m | inc m | jsr m | and m | bit m | rol m | dec m | eor m | lsr m | jmp m
  | jml m | adc m | stz m | ror m | sta m | sty m | stx m | ldy m | lda m | ldx m | cpy m | cmp m | cpx m
  | sbc m => cases m <;> cases hop <;> cases hmode <;> rfl
  | _ => cases hop; cases hmode; rfl

/-! ### The operand bytes of a mode (R73, R74) -/

/-- Bytes 1 to 3, in order. -/
def OperandBytes.toList (o : OperandBytes) : List Byte := [o.b1, o.b2, o.b3]

theorem OperandBytes.b1_eq_iff {o : OperandBytes} {v : Byte} : o.b1 = v ↔ [v] <+: o.toList := by
  simp [OperandBytes.toList, eq_comm]

theorem OperandBytes.w16_eq_iff {o : OperandBytes} {v : Word} :
    o.w16 = v ↔ wordBytes v <+: o.toList := by
  have hword : o.w16 = v ↔ lo v = o.b1 ∧ hi v = o.b2 := by
    rw [OperandBytes.w16]
    exact ⟨by rintro rfl; simp, fun ⟨hlo, hhi⟩ => by rw [← hlo, ← hhi, word_hi_lo]⟩
  rw [hword]
  simp [wordBytes, OperandBytes.toList]

theorem OperandBytes.w24_eq_iff {o : OperandBytes} {v : Addr} :
    o.w24 = v ↔ longBytes v <+: o.toList := by
  have hlong : o.w24 = v ↔ lo (offsetOf v) = o.b1 ∧ hi (offsetOf v) = o.b2 ∧ bankOf v = o.b3 := by
    rw [OperandBytes.w24, long]
    exact ⟨by rintro rfl; simp, fun ⟨hlo, hhi, hbank⟩ => by
      rw [← hlo, ← hhi, ← hbank, word_hi_lo, addr_bank_offset]⟩
  rw [hlong]
  simp [longBytes, OperandBytes.toList]

/-- The immediate that a flag sizes (R74). -/
theorem OperandBytes.sized_eq_iff {o : OperandBytes} {flag : Bool} {v : Imm} :
    (if flag then Imm.byte o.b1 else Imm.word o.w16) = v ↔
      v.isByte = flag ∧ immBytes v <+: o.toList := by
  cases v with
  | byte v => cases flag <;> simp [Imm.isByte, immBytes, OperandBytes.b1_eq_iff]
  | word v =>
    have hbytes : immBytes (.word v) = wordBytes v := rfl
    cases flag <;> simp [Imm.isByte, hbytes, OperandBytes.w16_eq_iff]

/-- The immediate of a mode has the width the flags give it (R74). -/
def Mode.immFits (m8 x8 : Bool) : Mode → Bool
  | .data m => m.immFits m8 x8
  | _ => true

theorem Instr.immFits_eq (m8 x8 : Bool) (i : Instr) : i.immFits m8 x8 = i.mode.immFits m8 x8 := rfl

theorem DataMode.withOperand_eq_self_iff {o : OperandBytes} {m : DataMode} :
    m.withOperand o = m ↔ m.immFits o.m8 o.x8 = true ∧ m.bytes <+: o.toList := by
  cases m <;>
    simp [DataMode.withOperand, DataMode.immFits, DataMode.bytes, OperandBytes.immM, OperandBytes.immX,
      OperandBytes.sized_eq_iff, OperandBytes.w16_eq_iff, OperandBytes.w24_eq_iff, OperandBytes.b1_eq_iff]

/-- A mode's operand is that of the bytes exactly where its immediate fits the flags and the bytes begin with
its own. -/
theorem Mode.withOperand_eq_self_iff {o : OperandBytes} {m : Mode} :
    m.withOperand o = m ↔ m.immFits o.m8 o.x8 = true ∧ m.bytes <+: o.toList := by
  cases m with
  | data m => simpa [Mode.withOperand, Mode.immFits, Mode.bytes] using DataMode.withOperand_eq_self_iff
  | near m =>
    cases m <;>
      simp [Mode.withOperand, NearMode.withOperand, Mode.immFits, Mode.bytes, NearMode.bytes,
        OperandBytes.w16_eq_iff]
  | far m =>
    cases m <;>
      simp [Mode.withOperand, FarMode.withOperand, Mode.immFits, Mode.bytes, FarMode.bytes,
        OperandBytes.w16_eq_iff, OperandBytes.w24_eq_iff]
  | imp | stk | rel8 | rel16 =>
    simp [Mode.withOperand, Mode.immFits, Mode.bytes, OperandBytes.w16_eq_iff, OperandBytes.b1_eq_iff]
  | blk => simp [Mode.withOperand, Mode.immFits, Mode.bytes, OperandBytes.toList, eq_comm]

/-- The instruction of an opcode and operand bytes is the one with this opcode whose immediate fits the flags and
whose operand bytes are the first of these (R70, R73, R74, R76). -/
theorem instrOf_eq_iff {op : Byte} {o : OperandBytes} {i : Instr} :
    instrOf op o = i ↔
      i.opcode = some op ∧ i.immFits o.m8 o.x8 = true ∧ i.mode.bytes <+: o.toList := by
  rw [Instr.immFits_eq, ← Mode.withOperand_eq_self_iff]
  constructor
  · rintro rfl
    exact ⟨opcode_instrOf op o, (mode_instrOf op o o).symm⟩
  · rintro ⟨hop, hmode⟩
    exact instrOf_of_opcode hop hmode

/-! ### The number of operand bytes (R74, R75) -/

theorem length_immM (o : OperandBytes) : (immBytes o.immM).length = if o.m8 then 1 else 2 := by
  unfold OperandBytes.immM
  split <;> rfl

theorem length_immX (o : OperandBytes) : (immBytes o.immX).length = if o.x8 then 1 else 2 := by
  unfold OperandBytes.immX
  split <;> rfl

/-- The modes whose length a flag decides (R74). -/
def Mode.isSized : Mode → Bool
  | .data (.immM _) | .data (.immX _) => true
  | _ => false

/-- Of the operand bytes, only the flags decide how many a mode takes, and those only where it is sized (R74). -/
theorem Mode.length_bytes_withOperand {o o' : OperandBytes} {m : Mode}
    (hflags : m.isSized = true → o.m8 = o'.m8 ∧ o.x8 = o'.x8) :
    (m.withOperand o).bytes.length = (m.withOperand o').bytes.length := by
  cases m with
  | data m =>
    cases m with
    | immM v | immX v =>
      obtain ⟨hm, hx⟩ := hflags rfl
      simp [Mode.withOperand, DataMode.withOperand, Mode.bytes, DataMode.bytes, length_immM, length_immX, hm, hx]
    | _ =>
      simp [Mode.withOperand, DataMode.withOperand, Mode.bytes, DataMode.bytes, wordBytes, longBytes]
  | near m => cases m <;> rfl
  | far m =>
    cases m <;>
      simp [Mode.withOperand, FarMode.withOperand, Mode.bytes, FarMode.bytes, wordBytes, longBytes]
  | _ => rfl

theorem operandCount_eq_withOperand (m8 x8 : Bool) (op : Byte) (o : OperandBytes) :
    operandCount m8 x8 op =
      ((instrOf op o).mode.withOperand { m8 := m8, x8 := x8, b1 := 0, b2 := 0, b3 := 0 }).bytes.length := by
  rw [operandCount, mode_instrOf op _ o]

/-- The operand count of an opcode is that of its instruction, whatever the operand bytes (R75). -/
theorem operandCount_eq (op : Byte) (o : OperandBytes) :
    operandCount o.m8 o.x8 op = (instrOf op o).mode.bytes.length := by
  conv_rhs => rw [mode_instrOf op o o]
  rw [operandCount_eq_withOperand o.m8 o.x8 op o]
  exact Mode.length_bytes_withOperand fun _ => ⟨rfl, rfl⟩

/-! ### The table of R76 -/

/-- A table of rows of one length, written row after row. -/
theorem getElem?_flatten_of_length {α : Type} {n col : Nat} (hcol : col < n) {rows : List (List α)}
    (hlength : ∀ r ∈ rows, r.length = n) (row : Nat) :
    rows.flatten[n * row + col]? = rows[row]?.bind (·[col]?) := by
  induction rows generalizing row with
  | nil => simp
  | cons r rows ih =>
    obtain ⟨hr, hrows⟩ := List.forall_mem_cons.mp hlength
    cases row with
    | zero => simp [List.getElem?_append_left, hr, hcol]
    | succ row =>
      have hplace : n * (row + 1) + col = r.length + (n * row + col) := by
        rw [hr, Nat.mul_succ]
        omega
      rw [List.flatten_cons, hplace, List.getElem?_append_right (Nat.le_add_right _ _),
        Nat.add_sub_cancel_left, ih hrows]
      rfl

/-- The rows of the table of R76. -/
def mapRows (o : OperandBytes) : List (List (Op × Mode)) :=
  [mapRow0 o, mapRow1 o, mapRow2 o, mapRow3 o, mapRow4 o, mapRow5 o, mapRow6 o, mapRow7 o,
    mapRow8 o, mapRow9 o, mapRowA o, mapRowB o, mapRowC o, mapRowD o, mapRowE o, mapRowF o]

theorem opcodeMap_eq_flatten (o : OperandBytes) : opcodeMap o = (mapRows o).flatten := by
  simp only [opcodeMap, mapRows, List.flatten_cons, List.flatten_nil, List.append_nil, List.append_assoc]

theorem length_of_mem_mapRows (o : OperandBytes) : ∀ r ∈ mapRows o, r.length = 16 := by
  simp only [mapRows, List.forall_mem_cons, List.not_mem_nil, false_imp_iff, implies_true, and_true]
  exact ⟨rfl, rfl, rfl, rfl, rfl, rfl, rfl, rfl, rfl, rfl, rfl, rfl, rfl, rfl, rfl, rfl⟩

/-- Settles O3: opcode `hi*16 + lo` stands in row `hi`, column `lo`, and there each cell is the spec's. -/
theorem opcodeMapIsTheSpecsTable : Obligations.OpcodeMapIsTheSpecsTable := by
  unfold Obligations.OpcodeMapIsTheSpecsTable
  intro op o
  rw [opcodeMap_eq_flatten, ← Nat.div_add_mod op.toNat 16,
    getElem?_flatten_of_length (Nat.mod_lt _ (by decide)) (length_of_mem_mapRows o)]
  induction op using forall_opcode with
  | cell row hrow col hcol => interval_cases row <;> interval_cases col <;> rfl

end Sys2Proof
end

section
/-! The decoder and the encoder are inverse to each other (30_encoding.md R70, R73, R74, R76). -/

namespace Sys2Proof

open Sys2Proof.Machine

/-! ### Decoding -/

/-- The operand bytes at the head of `rest` (R70); 0 past its end. -/
def operandsFrom (m8 x8 : Bool) (rest : List Byte) : OperandBytes :=
  { m8 := m8, x8 := x8, b1 := rest.getD 0 0, b2 := rest.getD 1 0, b3 := rest.getD 2 0 }

theorem toList_operandsFrom (m8 x8 : Bool) (rest : List Byte) :
    (operandsFrom m8 x8 rest).toList = (rest ++ [0, 0, 0]).take 3 := by
  rcases rest with _ | ⟨b1, _ | ⟨b2, _ | ⟨b3, rest⟩⟩⟩ <;> rfl

/-- Of the bytes that an operand takes, none is past the end of `rest` where `rest` is long enough. -/
theorem isPrefix_operandsFrom_iff {m8 x8 : Bool} {l rest : List Byte} (hl : l.length ≤ 3)
    (hrest : l.length ≤ rest.length) :
    l <+: (operandsFrom m8 x8 rest).toList ↔ l <+: rest := by
  rw [toList_operandsFrom, List.prefix_take_iff]
  constructor
  · rintro ⟨hprefix, -⟩
    exact List.prefix_of_prefix_length_le hprefix (List.prefix_append rest _) hrest
  · intro hprefix
    exact ⟨hprefix.trans (List.prefix_append rest _), hl⟩

/-- The operand count that the decoder goes by is that of the instruction it answers (R75). -/
theorem operandCount_eq_of_instrFrom {m8 x8 : Bool} {op : Byte} {rest : List Byte} {i : Instr}
    (hinstr : instrFrom m8 x8 op rest = i) : operandCount m8 x8 op = i.mode.bytes.length := by
  rw [← hinstr]
  exact operandCount_eq op (operandsFrom m8 x8 rest)

/-- Where enough bytes follow, the decoder's instruction is the one whose operand they begin with. -/
theorem instrFrom_eq_iff {m8 x8 : Bool} {op : Byte} {rest : List Byte} {i : Instr}
    (hrest : i.mode.bytes.length ≤ rest.length) :
    instrFrom m8 x8 op rest = i ↔
      i.opcode = some op ∧ i.immFits m8 x8 = true ∧ i.mode.bytes <+: rest := by
  rw [← isPrefix_operandsFrom_iff (Laws.OpcodeAndLength.bytes_le i.mode) hrest]
  exact instrOf_eq_iff

/-- The decoder answers an instruction and a rest exactly where the opcode is the instruction's, its immediate fits
the flags, and its operand and the rest follow (R70, R73, R74, R76). -/
theorem decode_cons_eq_ok_iff {m8 x8 : Bool} {op : Byte} {tail rest : List Byte} {i : Instr} :
    decode m8 x8 (op :: tail) = .ok (i, rest) ↔
      i.opcode = some op ∧ i.immFits m8 x8 = true ∧ i.mode.bytes ++ rest = tail := by
  have hdecode : decode m8 x8 (op :: tail) = .ok (i, rest) ↔
      operandCount m8 x8 op ≤ tail.length ∧ instrFrom m8 x8 op tail = i ∧
        tail.drop (operandCount m8 x8 op) = rest := by
    rw [decode]
    split
    next hshort => simp [Nat.not_le.mpr hshort]
    next hlong => simp [Nat.not_lt.mp hlong]
  rw [hdecode]
  constructor
  · rintro ⟨hcount, hinstr, hrest⟩
    rw [operandCount_eq_of_instrFrom hinstr] at hcount hrest
    obtain ⟨hop, hfits, hprefix⟩ := (instrFrom_eq_iff hcount).mp hinstr
    refine ⟨hop, hfits, ?_⟩
    rw [← hrest]
    exact (List.prefix_append_drop hprefix).symm
  · rintro ⟨hop, hfits, rfl⟩
    have hcount : i.mode.bytes.length ≤ (i.mode.bytes ++ rest).length := by simp
    have hinstr := (instrFrom_eq_iff hcount).mpr ⟨hop, hfits, List.prefix_append _ _⟩
    rw [operandCount_eq_of_instrFrom hinstr]
    exact ⟨hcount, hinstr, List.drop_left⟩

/-! ### Encoding -/

theorem encode_eq_some_iff {i : Instr} {bs : List Byte} :
    encode i = some bs ↔ ∃ op, i.opcode = some op ∧ op :: i.mode.bytes = bs := by
  simp [encode]

theorem isSome_encode (i : Instr) : (encode i).isSome = i.hasForm := by
  rw [encode, Option.isSome_map, isSome_opcode]

/-- The decoder answers an instruction and a rest exactly where the instruction is well-formed and the bytes are
its encoding and the rest (R70, R73, R74, R76). -/
theorem decode_eq_ok_iff {m8 x8 : Bool} {bs rest : List Byte} {i : Instr} :
    decode m8 x8 bs = .ok (i, rest) ↔
      i.wellFormed m8 x8 = true ∧ ∃ e, encode i = some e ∧ bs = e ++ rest := by
  rw [Instr.wellFormed, Bool.and_eq_true, ← isSome_opcode, Option.isSome_iff_exists]
  simp only [encode_eq_some_iff]
  constructor
  · intro hdecode
    cases bs with
    | nil => simp [decode] at hdecode
    | cons op tail =>
      obtain ⟨hop, hfits, rfl⟩ := decode_cons_eq_ok_iff.mp hdecode
      exact ⟨⟨⟨op, hop⟩, hfits⟩, _, ⟨op, hop, rfl⟩, rfl⟩
  · rintro ⟨⟨-, hfits⟩, -, ⟨op, hop, rfl⟩, rfl⟩
    exact decode_cons_eq_ok_iff.mpr ⟨hop, hfits, rfl⟩

/-- Settles O1: a well-formed instruction has an encoding, and the decoder answers it wherever the bytes begin
with that. -/
theorem decodeInvertsEncode : Obligations.DecodeInvertsEncode := by
  unfold Obligations.DecodeInvertsEncode
  intro m8 x8 i hi
  have hform : i.hasForm = true := (Bool.and_eq_true_iff.mp hi).1
  obtain ⟨e, hencode⟩ := Option.isSome_iff_exists.mp ((isSome_encode i).trans hform)
  exact ⟨e, hencode, fun rest => decode_eq_ok_iff.mpr ⟨hi, e, hencode, rfl⟩⟩

/-- Settles O2: the other direction of the same equivalence. -/
theorem encodeInvertsDecode : Obligations.EncodeInvertsDecode := by
  unfold Obligations.EncodeInvertsDecode
  exact fun m8 x8 bs i rest => decode_eq_ok_iff.mp

/-! ### The fields of R73 -/

theorem longBytes_eq (al : Addr) :
    longBytes al = [al.extractLsb' 0 8, al.extractLsb' 8 8, al.extractLsb' 16 8] := by
  simp [longBytes, lo, hi, offsetOf, bankOf]

theorem dataFields_eq_bytes (m : DataMode) : dataFields m = m.bytes := by
  cases m with
  | immM v | immX v => cases v <;> rfl
  | absl al | abslx al => exact (longBytes_eq al).symm
  | _ => rfl

/-- The fields of R73 are the operand bytes of the encoder. -/
theorem fieldsOf_eq_bytes (m : Mode) : fieldsOf m = m.bytes := by
  cases m with
  | data m => exact dataFields_eq_bytes m
  | near m => cases m <;> rfl
  | far m =>
    cases m with
    | pcabsl al => exact (longBytes_eq al).symm
    | absindl a => rfl
  | _ => rfl

/-- Settles O4: an accepted byte string is an encoding and a rest, and an encoding is the opcode and the fields. -/
theorem operandFieldsInOrder : Obligations.OperandFieldsInOrder := by
  unfold Obligations.OperandFieldsInOrder
  intro m8 x8 bs i rest hdecode
  obtain ⟨-, e, hencode, rfl⟩ := decode_eq_ok_iff.mp hdecode
  obtain ⟨op, -, rfl⟩ := encode_eq_some_iff.mp hencode
  rw [fieldsOf_eq_bytes]
  exact ⟨⟨op, rfl⟩, rfl, (Laws.OpcodeAndLength.length_bounds i).2⟩

/-! ### Words from the rules' examples -/

/-- Settles O6: the decoder evaluates each of these closed words to its instruction. -/
theorem specWordsDecode : Obligations.SpecWordsDecode := by
  unfold Obligations.SpecWordsDecode
  exact ⟨rfl, rfl, rfl, rfl, rfl, rfl, rfl, rfl, rfl, rfl⟩

end Sys2Proof
end

section
/-! The length of an instruction under the flags, its fetch, and the step that runs it (30_encoding.md R71, R72, R74,
R75, R78). -/

namespace Sys2Proof.Machine

/-! ### Lengths (R74, R75) -/

theorem length_instrOf (op : Byte) (o : OperandBytes) :
    (instrOf op o).length = 1 + operandCount o.m8 o.x8 op := by
  rw [Instr.length, operandCount_eq]

theorem operandCount_immM : ∀ op ∈ immMOpcodes, ∀ m8 x8, operandCount m8 x8 op = if m8 then 1 else 2 := by
  decide

theorem operandCount_immX : ∀ op ∈ immXOpcodes, ∀ m8 x8, operandCount m8 x8 op = if x8 then 1 else 2 := by
  decide

theorem operandCount_imm8 : ∀ op ∈ [(0xC2 : Byte), 0xE2], ∀ m8 x8, operandCount m8 x8 op = 1 := by decide

/-- The opcodes outside the two lists are not sized. -/
theorem isSized_instrOf : ∀ op ∉ immMOpcodes ++ immXOpcodes,
    (instrOf op { m8 := true, x8 := true, b1 := 0, b2 := 0, b3 := 0 }).mode.isSized = false := by
  decide

theorem operandCount_unsized {op : Byte} (h : op ∉ immMOpcodes ++ immXOpcodes) (m8 x8 : Bool) :
    operandCount m8 x8 op = operandCount true true op := by
  have hsized := isSized_instrOf op h
  rw [operandCount_eq_withOperand m8 x8 op, operandCount_eq_withOperand true true op]
  exact Mode.length_bytes_withOperand fun hm => absurd (hsized.symm.trans hm) (by decide)

/-! ### Fetching an instruction (R71) -/

/-- The operand bytes that the fetches answer are bytes `j + 1` on. -/
theorem State.fetchOperands_fetched_fst (s : State) (n j : Nat) :
    ((s.fetched (j + 1)).fetchOperands n).1 = (List.range' (j + 1) n).map s.codeByte := by
  induction n generalizing j with
  | zero => rfl
  | succ n ih =>
    have hfetch := s.fetch8_fetched (j + 1)
    rw [if_neg j.succ_ne_zero] at hfetch
    rw [State.fetchOperands, hfetch, ih (j + 1), List.range'_succ, List.map_cons]

theorem State.fetchInstr_fst (s : State) :
    s.fetchInstr.1 = instrFrom s.flagM s.flagX (s.codeByte 0)
      ((List.range' 1 (operandCount s.flagM s.flagX (s.codeByte 0))).map s.codeByte) := by
  have hop : s.fetch8 .opcodeFetch = (s.codeByte 0, s.fetched 1) := by
    simpa using s.fetch8_fetched 0
  rw [State.fetchInstr, hop]
  exact congrArg (instrFrom _ _ _) (s.fetchOperands_fetched_fst _ 0)

/-- A list of fetched bytes, and 0 past its end. -/
theorem getD_map_range' (f : Nat → Byte) (n j : Nat) :
    ((List.range' 1 n).map f).getD j 0 = if j + 1 ≤ n then f (j + 1) else 0 := by
  by_cases h : j < n <;> simp [List.getD_eq_getElem?_getD, h, Nat.add_comm]

theorem fetchedOperand_eq (s : State) :
    fetchedOperand s = operandsFrom s.flagM s.flagX
      ((List.range' 1 (operandCount s.flagM s.flagX (s.codeByte 0))).map s.codeByte) := by
  simp only [fetchedOperand, operandsFrom, getD_map_range']

/-- The fetched instruction and the state after its fetches (R71). -/
theorem State.fetchInstr_eq (s : State) :
    s.fetchInstr = (instrOf (s.codeByte 0) (fetchedOperand s),
      s.fetched (1 + operandCount s.flagM s.flagX (s.codeByte 0))) := by
  rw [fetchedOperand_eq]
  exact Prod.ext s.fetchInstr_fst s.fetchInstr_snd

theorem State.length_fetchInstr (s : State) :
    s.fetchInstr.1.length = 1 + operandCount s.flagM s.flagX (s.codeByte 0) := by
  rw [State.fetchInstr_eq]
  exact length_instrOf _ (fetchedOperand s)

/-- A fetch leaves `PC` after the instruction (R71, R74). -/
theorem State.fetchInstr_snd_eq (s : State) : s.fetchInstr.2 = s.fetched s.fetchInstr.1.length := by
  rw [State.length_fetchInstr, State.fetchInstr_snd]

/-- Settles O5: the opcodes of each class, and the fetched instruction has the operand count of its opcode. -/
theorem immediateLengthFollowsFlags : Obligations.ImmediateLengthFollowsFlags := by
  unfold Obligations.ImmediateLengthFollowsFlags
  refine ⟨fun m8 x8 op => ⟨?immM, ?immX, ?imm8, ?unsized⟩, fun s => ⟨s.length_fetchInstr, ?pc⟩⟩
  case immM => exact fun h => operandCount_immM op h m8 x8
  case immX => exact fun h => operandCount_immX op h m8 x8
  case imm8 => exact fun h => operandCount_imm8 op h m8 x8
  case unsized => exact fun h => operandCount_unsized h m8 x8
  case pc => exact congrArg State.pc s.fetchInstr_snd_eq

/-- Settles O18: one fetch, and the fetch of an instruction, as their equations. -/
theorem fetchPrimitives : Obligations.FetchPrimitives := by
  unfold Obligations.FetchPrimitives
  exact ⟨fun _ => ⟨rfl, rfl⟩, fun s => ⟨s.fetch8_eq, s.fetchInstr_eq⟩⟩

/-! ### The bytes at `K:PC` decode to the fetched instruction (R72, R78) -/

/-- The decoder reads no byte after the instruction. -/
theorem decode_append {m8 x8 : Bool} {bs rest : List Byte} {i : Instr}
    (h : decode m8 x8 bs = .ok (i, rest)) (more : List Byte) :
    decode m8 x8 (bs ++ more) = .ok (i, rest ++ more) := by
  obtain ⟨hwf, e, hencode, rfl⟩ := decode_eq_ok_iff.mp h
  exact decode_eq_ok_iff.mpr ⟨hwf, e, hencode, List.append_assoc ..⟩

theorem State.decode_fetched (s : State) :
    decode s.flagM s.flagX (s.codeByte 0 ::
      (List.range' 1 (operandCount s.flagM s.flagX (s.codeByte 0))).map s.codeByte) =
        .ok (s.fetchInstr.1, []) := by
  rw [decode, if_neg (by simp), ← State.fetchInstr_fst, List.drop_of_length_le (by simp)]

theorem State.decode_codeBytes (s : State) :
    ∃ rest, decode s.flagM s.flagX s.codeBytes = .ok (s.fetchInstr.1, rest) := by
  have hbytes {n : Nat} (hcount : n ≤ 3) : s.codeBytes =
      s.codeByte 0 :: (List.range' 1 n).map s.codeByte ++ (List.range' (1 + n) (3 - n)).map s.codeByte := by
    rw [List.cons_append, ← List.map_append, List.range'_append_1, Nat.add_sub_cancel' hcount]
    rfl
  rw [hbytes (operandCount_le s.flagM s.flagX (s.codeByte 0))]
  exact ⟨_, decode_append s.decode_fetched _⟩

/-! ### A step (R72, R288) -/

theorem State.wakeCondition_iff (s : State) :
    s.wakeCondition = true ↔ s.nmiPending = true ∨ s.irqLines ≠ 0 := by
  simp [State.wakeCondition, State.irqRequested]

theorem State.waitStep_eq (s : State) :
    s.waitStep = if s.nmiPending = true ∨ s.irqLines ≠ 0 then ({ s with run := .running }).interruptCheck
      else s.idle := by
  simp only [State.waitStep, State.wakeCondition_iff]

theorem State.boundary_eq (s : State) (i : Instr) :
    s.boundary i =
      if s.run = .stopped then s.spendIdle i
      else if s.run = .waiting ∧ (s.nmiPending = true ∨ s.irqLines ≠ 0) then
        ({ s.spendIdle i with run := .running }).interruptCheck
      else (s.spendIdle i).interruptCheck := by
  simp only [State.boundary, State.wakeAtOnce, State.wakeCondition_iff, State.spendIdle_run,
    State.spendIdle_nmiPending, State.spendIdle_irqLines]
  congr 1
  split <;> rfl

theorem step_of_stopped {s : State} (h : s.run = .stopped) :
    step s = .next ({ s with trace := [] } : State).idle := by
  simp [step, h]

theorem step_of_waiting {s : State} (h : s.run = .waiting) :
    step s = .next ({ s with trace := [] } : State).waitStep := by
  simp [step, h]

theorem step_of_running {s : State} (h : s.run = .running) :
    step s = ({ s with trace := [] } : State).fetchInstr.2.runInstr
      ({ s with trace := [] } : State).fetchInstr.1 := by
  simp [step, h]

theorem exec_next (i : Instr) (s : State) : ∃ t, exec i s = .next t :=
  (completesOnData i s).imp fun _ => And.left

theorem runInstr_of_exec {i : Instr} {s t : State} (h : exec i s = .next t) :
    s.runInstr i = .next (t.boundary i) := by
  rw [State.runInstr, h]

theorem step_next (s : State) : ∃ t, step s = .next t := by
  cases h : s.run with
  | running =>
    obtain ⟨t, hexec⟩ := exec_next ({ s with trace := [] } : State).fetchInstr.1
      ({ s with trace := [] } : State).fetchInstr.2
    exact ⟨_, (step_of_running h).trans (runInstr_of_exec hexec)⟩
  | waiting => exact ⟨_, step_of_waiting h⟩
  | stopped => exact ⟨_, step_of_stopped h⟩

/-- Settles O7: every opcode has its encoder's form, every instruction and every step a next state. -/
theorem everyInstructionCompletes : Obligations.EveryInstructionCompletes := by
  unfold Obligations.EveryInstructionCompletes
  refine ⟨fun op o => ?_, exec_next, step_next, nofun⟩
  rw [← isSome_opcode, opcode_instrOf, Option.isSome_some]

/-- Settles O19: each run state by its equation; a running step runs what it fetched, which is what the bytes at
`K:PC` decode to. -/
theorem stepRunsTheDecodedInstruction : Obligations.StepRunsTheDecodedInstruction := by
  unfold Obligations.StepRunsTheDecodedInstruction
  intro s s0
  obtain ⟨rest0, hfetched⟩ := s0.decode_codeBytes
  refine ⟨step_of_stopped, fun hrun => ?waiting, fun hrun i rest hdecode => ?running, _, rest0, hfetched⟩
  case waiting => exact (step_of_waiting hrun).trans (congrArg _ s0.waitStep_eq)
  case running =>
    have hinstr : s0.fetchInstr.1 = i := by
      cases hfetched.symm.trans hdecode
      rfl
    obtain ⟨t, hexec⟩ := exec_next i (s0.fetched i.length)
    have hstep : step s = .next (t.boundary i) := by
      rw [step_of_running hrun, State.fetchInstr_snd_eq, hinstr, runInstr_of_exec hexec]
    rw [State.boundary_eq] at hstep
    exact ⟨t, hexec, hstep⟩

end Sys2Proof.Machine
end

section
/-! Reading and writing an operand through its locator, as the accesses it makes (00_scope.md R11; 20_memory.md R54,
R58; 40_addressing.md R90). -/

namespace Sys2Proof.Machine

/-! ### `GetValue` -/

/-- An 8-bit read of memory is one access, at the first address (R11). -/
theorem State.readMem_w8 (s : State) (a0 a1 : Addr) :
    s.readMem a0 a1 .w8 = (zext (s.answer 0 a0), s.accessed [.read .data a0 (s.answer 0 a0)]) := by
  rw [State.readMem, State.read8_eq]

/-- A 16-bit read of memory reads the low byte first (R58). -/
theorem State.readMem_w16 (s : State) (a0 a1 : Addr) :
    s.readMem a0 a1 .w16 = (word (s.answer 1 a1) (s.answer 0 a0),
      s.accessed [.read .data a0 (s.answer 0 a0), .read .data a1 (s.answer 1 a1)]) :=
  s.read16_eq a0 a1

/-! ### `PutValue` and `PutValueRMW` -/

/-- A store makes the writes of its order: low byte first (R58). -/
theorem State.writeMem_eq (s : State) (a0 a1 : Addr) (w : Width) (v : Word) :
    s.writeMem a0 a1 w v = s.accessed (storeOrder w a0 a1 v) := by
  cases w with
  | w8 => exact s.write8_eq .data a0 (lo v)
  | w16 => rw [State.writeMem, State.write8_eq, State.write8_eq, State.accessed_accessed]; rfl

/-- A read-modify-write store makes the writes of its order: high byte first (R58). -/
theorem State.writeMemRMW_eq (s : State) (a0 a1 : Addr) (w : Width) (v : Word) :
    s.writeMemRMW a0 a1 w v = s.accessed (highFirst w a0 a1 v) := by
  cases w with
  | w8 => exact s.write8_eq .data a0 (lo v)
  | w16 => rw [State.writeMemRMW, State.write8_eq, State.write8_eq, State.accessed_accessed]; rfl

/-- Settles O24: immediates and `A` by the definitions of `GetValue` and `PutValue`, memory by its accesses. -/
theorem getAndPutValue : Obligations.GetAndPutValue := by
  unfold Obligations.GetAndPutValue
  intro s a0 a1 v b0 b1
  have immediate (w : Width) : s.getValue (.imm v) w = (trunc w v, s) := rfl
  have accumulator (w : Width) : s.getValue .acc w = (trunc w s.a, s) := rfl
  exact ⟨immediate .w8, immediate .w16, s.readMem_w8 a0 a1, s.readMem_w16 a0 a1, accumulator .w8,
    accumulator .w16, s.writeMem_eq a0 a1 .w8 v, s.writeMem_eq a0 a1 .w16 v,
    s.writeMemRMW_eq a0 a1 .w8 v, s.writeMemRMW_eq a0 a1 .w16 v, fun _ => ⟨rfl, rfl⟩⟩

end Sys2Proof.Machine
end

section
/-! The locator of every mode, with the reads of its pointer (40_addressing.md R91 to R121). -/

namespace Sys2Proof.Machine

/-! ### The direct page (R91, R97 to R104, R120) -/

/-- `DP(off, q)` (R91): in the page of `D` where the quirk applies, else inside bank 0. -/
theorem State.dpAddr_eq (s : State) (off : Word) (q : Bool) :
    s.dpAddr off q = if q = true ∧ s.e = true ∧ lo s.d = 0x00 then addr 0x00 (word (hi s.d) (lo off))
      else addr 0x00 (s.d + off) := by
  simp only [State.dpAddr, Bool.and_eq_true, beq_iff_eq, and_assoc]

/-- The 16-bit pointer in the direct page: two reads, each address under the quirk (R100). -/
theorem State.dpPointer_eq (s : State) (off : Word) :
    s.dpPointer off = (word (s.answer 1 (s.dpAddr (off + 1) true)) (s.answer 0 (s.dpAddr off true)),
      s.accessed [.read .data (s.dpAddr off true) (s.answer 0 (s.dpAddr off true)),
        .read .data (s.dpAddr (off + 1) true) (s.answer 1 (s.dpAddr (off + 1) true))]) :=
  s.read16_eq _ _

/-- The 24-bit pointer in the direct page: three reads, without the quirk (R103; 92_eei_decisions.md D6). -/
theorem State.dpLongPointer_eq (s : State) (off : Word) :
    s.dpLongPointer off = (long (s.answer 2 (s.dpAddr (off + 2) false))
        (s.answer 1 (s.dpAddr (off + 1) false)) (s.answer 0 (s.dpAddr off false)),
      s.accessed [.read .data (s.dpAddr off false) (s.answer 0 (s.dpAddr off false)),
        .read .data (s.dpAddr (off + 1) false) (s.answer 1 (s.dpAddr (off + 1) false)),
        .read .data (s.dpAddr (off + 2) false) (s.answer 2 (s.dpAddr (off + 2) false))]) :=
  s.read24_eq _ _ _

/-- Settles O20: the direct modes are `DP` at their offsets; the indirect ones read the pointer, 16-bit or 24-bit,
at that offset. -/
theorem directPageModes : Obligations.DirectPageModes := by
  unfold Obligations.DirectPageModes
  refine ⟨State.dpAddr_eq, fun s b => ?_⟩
  intro d quirk plain at2 at3 y
  have pointer16 (off : Word) : at2 off = (addr s.dbr (s.dpPointer off).1, (s.dpPointer off).2) := by
    rw [State.dpPointer_eq]
    rfl
  have pointer24 : at3 = s.dpLongPointer d := (s.dpLongPointer_eq d).symm
  simp only [pointer16, pointer24]
  exact ⟨rfl, rfl, rfl, rfl, rfl, rfl, rfl, rfl, rfl⟩

/-! ### Absolute and stack-relative (R105 to R111) -/

/-- Settles O22: only `(d,S),Y` reads a pointer; the other addresses are sums. -/
theorem absoluteAndStackModes : Obligations.AbsoluteAndStackModes := by
  unfold Obligations.AbsoluteAndStackModes
  intro s a al b x y base sd p0 p1 ptr
  refine ⟨rfl, rfl, rfl, rfl, rfl, ?sr, ?sriy⟩
  case sr => rw [State.resolveData, State.resolveSr, nextBank0, offsetOf_addr]; rfl
  case sriy => rw [State.resolveData, State.resolveSriy, State.read16_eq]; rfl

/-! ### Targets and block moves (R112 to R119) -/

/-- The sign extension of a byte, by its sign bit (00_scope.md R9). -/
theorem sext_eq (r : Byte) : sext r = if r.toNat < 0x80 then zext r else zext r + 0xFF00 := by
  have hr := r.isLt
  apply BitVec.eq_of_toNat_eq
  rw [sext, BitVec.toNat_signExtend, BitVec.msb_eq_decide]
  rcases Nat.lt_or_ge r.toNat 0x80 with hpos | hneg
  · simp [hpos, hpos.not_ge, zext, word_toNat]
    omega
  · simp [hneg, hneg.not_gt, zext, word_toNat]
    omega

/-- Settles O23: a relative target is an addition to `PC`; an indirect one is read low byte first. -/
theorem targetModes : Obligations.TargetModes := by
  unfold Obligations.TargetModes
  intro s r dst src a al near p0 p1 p2
  refine ⟨?rel8, rfl, rfl, rfl, ?absind, ?absindx, ?absindl, rfl, rfl⟩
  case rel8 => rw [State.resolve, State.resolveRel8, sext_eq]; rfl
  case absind => rw [State.resolve, State.resolveNear, State.resolveAbsind, State.read16_eq]; rfl
  case absindx => rw [State.resolve, State.resolveNear, State.resolveAbsindx, State.read16_eq]; rfl
  case absindl => rw [State.resolve, State.resolveFar, State.resolveAbsindl, State.read24_eq]; rfl

/-! ### No address (R92 to R96, R121) -/

/-- A mode that opcodes have in the map with 8-bit widths and zero operand bytes, they have with every operand. -/
theorem mode_instrOf_of_zero {l : List Byte} {m : Mode}
    (h : ∀ op ∈ l, (instrOf op { m8 := true, x8 := true, b1 := 0, b2 := 0, b3 := 0 }).mode = m) {op : Byte}
    (hop : op ∈ l) (o : OperandBytes) : (instrOf op o).mode = m.withOperand o := by
  rw [mode_instrOf op o, h op hop]

/-- Settles O21: the modes of the opcodes from the map; the constants and the unused signature by the
definitions. -/
theorem modesWithoutAddress : Obligations.ModesWithoutAddress := by
  unfold Obligations.ModesWithoutAddress
  refine ⟨fun o op => ⟨?immM, ?immX, ?imm8, ?sig, rfl⟩, fun s b v => ?constants, fun s b c => ⟨rfl, rfl, rfl⟩,
    rfl, rfl, rfl⟩
  case immM => exact fun h => mode_instrOf_of_zero (m := .data (.immM (.byte 0))) (by decide) h o
  case immX => exact fun h => mode_instrOf_of_zero (m := .data (.immX (.byte 0))) (by decide) h o
  case imm8 => exact fun h => mode_instrOf_of_zero (m := .data (.imm8 0)) (by decide) h o
  case sig => exact fun h => mode_instrOf_of_zero (m := .data (.sig 0)) (by decide) h o
  case constants => exact ⟨rfl, rfl, rfl, rfl, rfl, rfl, rfl, rfl, rfl, rfl⟩

end Sys2Proof.Machine
end

section
/-! The introspection: it peeks at the state after the instruction's fetches (40_addressing.md R123). -/

namespace Sys2Proof.Machine

/-- The record of accesses and the cycle count have no part in a locator (R90). -/
theorem resolve_fst_with_record (s : State) (l : List Access) (n : Nat) (m : Mode) :
    (({ s with trace := l, cycles := n } : State).resolve m).1 = (s.resolve m).1 := by
  cases m with
  | data m => cases m <;> rfl
  | near m => cases m <;> rfl
  | far m => cases m <;> rfl
  | _ => rfl

/-- Where the bus answers from memory, fetching moves `PC`, and besides it only the record and the cycle count. -/
theorem State.fetched_of_env_nil {s : State} (h : s.env = []) (n : Nat) :
    s.fetched n = { s with
      env := []
      pc := s.pc + BitVec.ofNat 16 n
      trace := s.trace ++ s.fetches n
      cycles := s.cycles + n } := by
  simp [State.fetched, State.accessed, writesOf_reads (s.fetches_isRead n), firstCalls, h]

/-- Settles O26: the peeked state is the fetched one but for the record and the cycle count; the width is the table
entry of the operation. -/
theorem introspectionAgrees : Obligations.IntrospectionAgrees := by
  unfold Obligations.IntrospectionAgrees
  refine ⟨fun s i henv => ?locator, fun s i => ?width, fun s => rfl⟩
  case locator =>
    rw [State.fetched_of_env_nil henv]
    exact (resolve_fst_with_record _ _ _ i.mode).symm
  case width =>
    have rule : (introspect i s).2 = s.widthOfRule (Op.widthRule i.op) := rfl
    rw [rule]
    cases i.op <;> rfl

end Sys2Proof.Machine
end

section
/-! An operation on its operand, from the state after the pointer was read, and what the setters write in a state
that meets the invariants (00_scope.md R13; 10_state.md R30 to R32; 40_addressing.md R90). -/

namespace Sys2Proof.Machine

/-! ### The states around an operand's reads -/

theorem resolveData_snd (s : State) (m : DataMode) : (s.resolveData m).2 = s.pointerRead m :=
  (resolveData_readsData s m).eq_accessed

/-- Reading the operand at the locator of its mode (R90). -/
theorem getValue_pointerRead (s : State) (m : DataMode) (w : Width) :
    (s.pointerRead m).getValue (s.resolveData m).1 w = ((s.operand m w).1, s.operandRead m w) := by
  rw [← resolveData_snd]
  exact Prod.ext rfl (operand_readsData s m w).eq_accessed

@[simp] theorem State.pointerRead_acc (s : State) (m : DataMode) : (s.pointerRead m).acc = s.acc := rfl
@[simp] theorem State.pointerRead_idx (s : State) (m : DataMode) : (s.pointerRead m).idx = s.idx := rfl
@[simp] theorem State.pointerRead_idy (s : State) (m : DataMode) : (s.pointerRead m).idy = s.idy := rfl
@[simp] theorem State.pointerRead_wM (s : State) (m : DataMode) : (s.pointerRead m).wM = s.wM := rfl
@[simp] theorem State.pointerRead_wX (s : State) (m : DataMode) : (s.pointerRead m).wX = s.wX := rfl
@[simp] theorem State.pointerRead_flagC (s : State) (m : DataMode) : (s.pointerRead m).flagC = s.flagC := rfl
@[simp] theorem State.pointerRead_flagD (s : State) (m : DataMode) : (s.pointerRead m).flagD = s.flagD := rfl

/-- Reads keep the invariants. -/
theorem State.Inv.operandRead {s : State} (h : s.Inv) (m : DataMode) (w : Width) :
    (s.operandRead m w).Inv := by
  have hread : (s.operand m w).2 = s.operandRead m w := (operand_readsData s m w).eq_accessed
  rw [← hread]
  exact ((resolveData_writesOnly s m).trans (getValue_writesOnly _ _ w) h).1

/-- An operation on an operand runs on the state after its pointer was read (R59). -/
theorem exec_of_onData {i : Instr} {operate : State → Operand → State} {m : DataMode} {s : State}
    (hexec : exec i s = onData operate m s) :
    exec i s = .next (operate (s.pointerRead m) (s.resolveData m).1) := by
  rw [hexec, onData, resolveData_snd]

theorem Completes.of_onData {i : Instr} {operate : State → Operand → State} {m : DataMode}
    {f : State → State} (hexec : ∀ s, exec i s = onData operate m s)
    (hf : ∀ s, s.Inv → operate (s.pointerRead m) (s.resolveData m).1 = f s) : Completes i f :=
  fun s h => (exec_of_onData (hexec s)).trans (congrArg _ (hf s h))

/-! ### The low `w` bits of a value -/

theorem getLsbD_trunc (w : Width) (v : Word) (i : Nat) :
    (trunc w v).getLsbD i = (decide (i < bitsOf w) && v.getLsbD i) := by
  rw [BitVec.getLsbD, trunc_toNat, Nat.testBit_mod_two_pow]
  rfl

/-- The low bits of a bitwise operation are those of its operands' low bits (R130). -/
theorem trunc_bitwise {f : Word → Word → Word} {g : Bool → Bool → Bool}
    (hf : ∀ a v i, (f a v).getLsbD i = g (a.getLsbD i) (v.getLsbD i)) (w : Width) (a v : Word) :
    trunc w (f (trunc w a) v) = trunc w (f a v) := by
  apply BitVec.eq_of_getLsbD_eq
  intro i _
  by_cases hi : i < bitsOf w <;> simp [getLsbD_trunc, hf, hi]

/-- `N` and `Z` come from the low `w` bits (R13). -/
@[simp] theorem withNZ_trunc (p : Byte) (w : Width) (v : Word) : withNZ p w (trunc w v) = withNZ p w v := by
  have htop : bitsOf w - 1 < bitsOf w := by cases w <;> decide
  simp only [withNZ, trunc_toNat, Nat.mod_mod, getLsbD_trunc, htop, decide_true, Bool.true_and]

/-- `SetA` writes the low `w` bits (R30). -/
@[simp] theorem accWith_trunc (w : Width) (a v : Word) : accWith w a (trunc w v) = accWith w a v := by
  cases w with
  | w8 => simp [accWith, trunc, zext]
  | w16 => rfl

/-- A value with no bit above its width is zero where its low `w` bits are. -/
theorem isZero_of_trunc {w : Width} {v : Word} (h : trunc w v = v) : isZero w v = decide (v = 0) := by
  rw [isZero, h, beq_eq_decide]

/-! ### Setters under the invariants -/

theorem setA_eq (s : State) (w : Width) (v : Word) : s.setA w v = { s with a := accWith w s.a v } := rfl

/-- A write of `A` that sets `N` and `Z` (R30, R13). -/
theorem setA_setNZ_of_inv {s : State} (h : s.Inv) (w : Width) (v : Word) :
    (s.setA w v).setNZ w v = { s with a := accWith w s.a v, p := withNZ s.p w v } := by
  rw [setNZ_of_inv (setA_writesOnly s w v h).1, setA_eq]

/-- An index register holds its low `wX` bits (R31, R32). -/
theorem narrowIndex_eq_trunc (s : State) (v : Word) : narrowIndex s.p v = trunc s.wX v := by
  unfold State.wX widthOf State.flagX narrowIndex
  split <;> rfl

theorem State.Inv.idx_eq {s : State} (h : s.Inv) : s.idx = s.x := by
  rw [State.idx, ← narrowIndex_eq_trunc]
  exact narrowIndex_of_inv fun hb => (h.indexHigh hb).1

theorem State.Inv.idy_eq {s : State} (h : s.Inv) : s.idy = s.y := by
  rw [State.idy, ← narrowIndex_eq_trunc]
  exact narrowIndex_of_inv fun hb => (h.indexHigh hb).2

end Sys2Proof.Machine
end

section
/-! Compares, logic and index steps (41_arithmetic_logic.md R133 to R139, R144 to R147). -/

namespace Sys2Proof.Machine

/-! ### Compares (R133 to R135) -/

/-- A compare at width `w` of the value `a` writes `C`, `Z` and `N` after the operand was read (R133). -/
theorem opCompare_of_inv {s : State} (h : s.Inv) (m : DataMode) (w : Width) (a : Word) :
    opCompare (s.pointerRead m) w a (s.resolveData m).1 = { s.operandRead m w with
      p := withNZ (withMask s.p maskC (decide ((s.operand m w).1.toNat ≤ a.toNat))) w
        (a - (s.operand m w).1) } := by
  have hread := h.operandRead m w
  rw [opCompare, getValue_pointerRead]
  dsimp only
  rw [setNZ_of_inv (hread.setFlag (by decide) (by decide) _), setFlag_of_inv hread (by decide) (by decide),
    compareDiff, withNZ_trunc]
  rfl

/-- Settles O31: the three compares are one operation on `A`, `X` or `Y` at its width. -/
theorem comparesSetFlagsOnly : Obligations.ComparesSetFlagsOnly := by
  unfold Obligations.ComparesSetFlagsOnly
  refine ⟨fun _ => rfl, fun _ => rfl, fun _ => rfl, fun m => ?_⟩
  exact ⟨.of_onData (operate := fun t => opCompare t t.wM t.acc) (fun _ => rfl)
      fun s h => opCompare_of_inv h m s.wM s.acc,
    .of_onData (operate := fun t => opCompare t t.wX t.idx) (fun _ => rfl)
      fun s h => opCompare_of_inv h m s.wX s.idx,
    .of_onData (operate := fun t => opCompare t t.wX t.idy) (fun _ => rfl)
      fun s h => opCompare_of_inv h m s.wX s.idy⟩

/-! ### Logic (R136 to R138) -/

/-- A bitwise operation writes `A`, `N` and `Z` from the low bits of its result alone (R130). -/
theorem opLogic_of_inv {f : Word → Word → Word} {g : Bool → Bool → Bool}
    (hf : ∀ a v i, (f a v).getLsbD i = g (a.getLsbD i) (v.getLsbD i)) {s : State} (h : s.Inv) (m : DataMode) :
    opLogic f (s.pointerRead m) (s.resolveData m).1 = { s.operandRead m s.wM with
      a := accWith s.wM s.a (f s.a (s.operand m s.wM).1)
      p := withNZ s.p s.wM (f s.a (s.operand m s.wM).1) } := by
  rw [opLogic, State.pointerRead_wM, State.pointerRead_acc, getValue_pointerRead]
  dsimp only
  rw [setA_setNZ_of_inv (h.operandRead m s.wM), ← accWith_trunc, ← withNZ_trunc, State.acc, trunc_bitwise hf,
    accWith_trunc, withNZ_trunc]
  rfl

/-- Settles O32: each is a bitwise operation, whose low bits are those of its operands. -/
theorem logicIntoTheAccumulator : Obligations.LogicIntoTheAccumulator := by
  unfold Obligations.LogicIntoTheAccumulator
  refine ⟨fun _ => rfl, fun _ => rfl, fun _ => rfl, fun m => ?_⟩
  exact ⟨.of_onData (fun _ => rfl) fun s h => opLogic_of_inv (fun _ _ _ => BitVec.getLsbD_and) h m,
    .of_onData (fun _ => rfl) fun s h => opLogic_of_inv (fun _ _ _ => BitVec.getLsbD_or) h m,
    .of_onData (fun _ => rfl) fun s h => opLogic_of_inv (fun _ _ _ => BitVec.getLsbD_xor) h m⟩

/-! ### `BIT` (R139) -/

/-- The `Z` of `BIT`, `TSB` and `TRB`: the accumulator and the operand have no bit in common. -/
theorem isZero_acc_and (s : State) (v : Word) : isZero s.wM (s.acc &&& v) = decide (s.acc &&& v = 0) := by
  refine isZero_of_trunc (BitVec.eq_of_getLsbD_eq fun i _ => ?_)
  simp only [State.acc, getLsbD_trunc, BitVec.getLsbD_and]
  cases decide (i < bitsOf s.wM) <;> simp

theorem msb2_eq_getLsbD (w : Width) (v : Word) : msb2 w v = v.getLsbD (bitsOf w - 2) := by
  cases w <;> rfl

/-- `BIT` of an immediate writes `Z` alone (R139). -/
theorem opBit_immM_of_inv {s : State} (h : s.Inv) (i : Imm) :
    opBit (s.pointerRead (.immM i)) (s.resolveData (.immM i)).1 = { s.operandRead (.immM i) s.wM with
      p := withMask s.p maskZ (decide (s.acc &&& (s.operand (.immM i) s.wM).1 = 0)) } := by
  have himm : (s.resolveData (.immM i)).1.isImm = true := rfl
  rw [opBit, getValue_pointerRead, himm]
  dsimp only
  rw [State.pointerRead_wM, State.pointerRead_acc, isZero_acc_and,
    setFlag_of_inv (h.operandRead _ _) (by decide) (by decide)]
  rfl

/-- `BIT` of memory writes `Z` from the and, and `N` and `V` from the operand (R139). -/
theorem opBit_mem_of_inv {s : State} (h : s.Inv) {m : DataMode} {a0 a1 : Addr}
    (hm : (s.resolveData m).1 = .mem a0 a1) :
    let v := (s.operand m s.wM).1
    opBit (s.pointerRead m) (s.resolveData m).1 = { s.operandRead m s.wM with
      p := withMask (withMask (withMask s.p maskZ (decide (s.acc &&& v = 0)))
        maskN (v.getLsbD (bitsOf s.wM - 1))) maskV (v.getLsbD (bitsOf s.wM - 2)) } := by
  have hz := (h.operandRead m s.wM).setFlag (m := maskZ) rfl rfl
    (isZero s.wM (s.acc &&& (s.operand m s.wM).1))
  have himm : (s.resolveData m).1.isImm = false := by rw [hm]; rfl
  rw [opBit, getValue_pointerRead, himm]
  dsimp only
  rw [State.pointerRead_wM, State.pointerRead_acc,
    setFlag_of_inv (hz.setFlag rfl rfl _) rfl rfl, setFlag_of_inv hz rfl rfl,
    setFlag_of_inv (h.operandRead m s.wM) rfl rfl, isZero_acc_and, msb_eq_getLsbD, msb2_eq_getLsbD]
  rfl

/-- Settles O33: `N` and `V` are written exactly where the locator is no immediate. -/
theorem bitTestsTheOperand : Obligations.BitTestsTheOperand := by
  unfold Obligations.BitTestsTheOperand
  refine ⟨fun _ => rfl, fun i => ?immediate, fun m hm => ?memory⟩
  case immediate => exact .of_onData (fun _ => rfl) fun s h => opBit_immM_of_inv h i
  case memory =>
    refine .of_onData (fun _ => rfl) fun s h => ?_
    obtain ⟨a0, a1, hs⟩ := hm s
    exact opBit_mem_of_inv h hs

/-! ### Index steps (R144 to R147) -/

/-- A step of `X` at index width (R144, R146). -/
theorem opStepX_of_inv (f : Word → Word) {s : State} (h : s.Inv) :
    opStepX f s = { s with x := trunc s.wX (f s.x), p := withNZ s.p s.wX (f s.x) } := by
  rw [opStepX, h.idx_eq, setNZ_of_inv (setX_writesOnly s _ h).1, withNZ_trunc, State.setX,
    narrowIndex_eq_trunc, trunc_trunc]

/-- A step of `Y` at index width (R145, R147). -/
theorem opStepY_of_inv (f : Word → Word) {s : State} (h : s.Inv) :
    opStepY f s = { s with y := trunc s.wX (f s.y), p := withNZ s.p s.wX (f s.y) } := by
  rw [opStepY, h.idy_eq, setNZ_of_inv (setY_writesOnly s _ h).1, withNZ_trunc, State.setY,
    narrowIndex_eq_trunc, trunc_trunc]

/-- Settles O36: the four steps are two operations, up or down by one. -/
theorem indexIncrementAndDecrement : Obligations.IndexIncrementAndDecrement := by
  unfold Obligations.IndexIncrementAndDecrement
  refine ⟨fun _ => rfl, fun s h => ?inx, fun s h => ?iny, fun s h => ?dex, fun s h => ?dey⟩
  case inx => exact congrArg _ (opStepX_of_inv (· + 1) h)
  case iny => exact congrArg _ (opStepY_of_inv (· + 1) h)
  case dex => exact congrArg _ (opStepX_of_inv (· - 1) h)
  case dey => exact congrArg _ (opStepY_of_inv (· - 1) h)

end Sys2Proof.Machine
end

section
/-! Read-modify-write operations (41_arithmetic_logic.md R140 to R143): what a store through the locator of a mode
leaves in memory, and the operations that make it. -/

namespace Sys2Proof.Machine

/-! ### Stores (20_memory.md R51, R58) -/

theorem lo_ne_lo_add_one (v : Word) : lo v ≠ lo (v + 1) := by
  intro h
  have hbyte := congrArg BitVec.toNat h
  rw [lo_toNat, lo_toNat, BitVec.toNat_add, show (1 : Word).toNat = 1 from rfl] at hbyte
  omega

theorem addr_ne_addr_add_one (b : Byte) (v : Word) : addr b v ≠ addr b (v + 1) := by
  intro h
  exact lo_ne_lo_add_one v (by simpa using congrArg (fun a => lo (offsetOf a)) h)

theorem dpAddr_ne_add_one (s : State) (off : Word) (q : Bool) : s.dpAddr off q ≠ s.dpAddr (off + 1) q := by
  unfold State.dpAddr
  split
  · intro h
    exact lo_ne_lo_add_one off (by simpa using congrArg (fun a => lo (offsetOf a)) h)
  · rw [← BitVec.add_assoc]
    exact addr_ne_addr_add_one 0x00 (s.d + off)

theorem nextLong_ne (a : Addr) : a ≠ nextLong a := by
  intro h
  have haddr := congrArg BitVec.toNat h
  rw [nextLong, BitVec.toNat_add, show (1 : Addr).toNat = 1 from rfl] at haddr
  omega

/-- The two addresses of a memory locator differ, so neither byte of a store overwrites the other (R122). -/
theorem resolveData_mem_ne {s : State} {m : DataMode} {a0 a1 : Addr}
    (h : (s.resolveData m).1 = .mem a0 a1) : a0 ≠ a1 := by
  cases m with
  | acc | immM | immX | imm8 | sig | pea => cases h
  | dp | dpx | dpy | pei => cases h; exact dpAddr_ne_add_one s _ _
  | sr d =>
    cases h
    rw [nextBank0, offsetOf_addr]
    exact addr_ne_addr_add_one 0x00 _
  | _ => cases h; exact nextLong_ne _

/-- Where memory is canonical and the addresses differ, the writes of a read-modify-write store leave its bytes and
no others (R51, R58). -/
theorem stores_highFirst {s t : State} {a0 a1 : Addr} {w : Width} {v : Word} (hmem : Memory.wf s.mem = true)
    (hne : a0 ≠ a1) (ht : t = s.accessed (highFirst w a0 a1 v)) :
    s.Stores t w a0 a1 v (highFirst w a0 a1 v) := by
  subst ht
  have hne' : a1.toNat ≠ a0.toNat := fun h => hne (BitVec.eq_of_toNat_eq h.symm)
  cases w with
  | w8 =>
    have byte : ∀ n, Memory.read (s.accessed (highFirst .w8 a0 a1 v)).mem n =
        if n = a0.toNat then lo v else Memory.read s.mem n := Memory.read_write hmem _ _
    refine ⟨rfl, ?_, nofun, fun n hn => ?_⟩
    · rw [byte, if_pos rfl]
    · rw [byte, if_neg (by simpa [storedAt] using hn)]
  | w16 =>
    have byte : ∀ n, Memory.read (s.accessed (highFirst .w16 a0 a1 v)).mem n =
        if n = a0.toNat then lo v else if n = a1.toNat then hi v else Memory.read s.mem n := fun n => by
      rw [← Memory.read_write hmem]
      exact Memory.read_write (Memory.wf_write a1 (hi v) hmem) _ _ n
    refine ⟨rfl, ?_, fun _ => ?_, fun n hn => ?_⟩
    · rw [byte, if_pos rfl]
    · rw [byte, if_neg hne', if_pos rfl]
    · obtain ⟨h0, h1⟩ : n ≠ a0.toNat ∧ n ≠ a1.toNat := by simpa [storedAt] using hn
      rw [byte, if_neg h0, if_neg h1]

/-! ### `TSB` and `TRB` (R140, R141) -/

/-- Test-and-set or -reset at a memory locator: `Z`, then the store (R140, R141). -/
theorem opTestSet_of_inv (f : Word → Word → Word) {s : State} (h : s.Inv) {m : DataMode} {a0 a1 : Addr}
    (hm : (s.resolveData m).1 = .mem a0 a1) :
    let v := (s.operand m s.wM).1
    State.Stores { s.operandRead m s.wM with p := withMask s.p maskZ (decide (s.acc &&& v = 0)) }
      (opTestSet f (s.pointerRead m) (s.resolveData m).1) s.wM a0 a1 (f v s.acc)
      (highFirst s.wM a0 a1 (f v s.acc)) := by
  have hread := h.operandRead m s.wM
  refine stores_highFirst ?canonical (resolveData_mem_ne hm) ?run
  case canonical => exact hread.memoryCanonical
  case run =>
    rw [opTestSet, getValue_pointerRead, hm]
    dsimp only
    rw [State.pointerRead_wM, State.pointerRead_acc, State.putValueRMW, State.writeMemRMW_eq,
      setFlag_of_inv hread rfl rfl, isZero_acc_and]
    rfl

/-- Settles O34: both are one operation, which stores at the locator of the mode. -/
theorem testAndSetWritesBack : Obligations.TestAndSetWritesBack := by
  unfold Obligations.TestAndSetWritesBack
  refine ⟨fun _ => rfl, fun s m a0 a1 h hm =>
    ⟨⟨_, exec_of_onData rfl, ?tsb⟩, ⟨_, exec_of_onData rfl, ?trb⟩⟩⟩
  case tsb => exact opTestSet_of_inv (fun v a => v ||| a) h hm
  case trb => exact opTestSet_of_inv (fun v a => v &&& ~~~a) h hm

/-! ### `INC` and `DEC` (R142, R143) -/

/-- A step of memory at its locator: the store, then `N` and `Z` (R142, R143). -/
theorem opStepValue_mem_of_inv (f : Word → Word) {s : State} (h : s.Inv) {m : DataMode} {a0 a1 : Addr}
    (hm : (s.resolveData m).1 = .mem a0 a1) :
    let r := trunc s.wM (f (s.operand m s.wM).1)
    State.Stores { s.operandRead m s.wM with p := withNZ s.p s.wM r }
      (opStepValue f (s.pointerRead m) (s.resolveData m).1) s.wM a0 a1 r (highFirst s.wM a0 a1 r) := by
  have hread := h.operandRead m s.wM
  refine stores_highFirst ?canonical (resolveData_mem_ne hm) ?run
  case canonical => exact hread.memoryCanonical
  case run =>
    rw [opStepValue, getValue_pointerRead, hm]
    dsimp only
    rw [State.pointerRead_wM, State.putValueRMW, State.writeMemRMW_eq,
      setNZ_of_inv (accessed_writesOnly _ _ hread).1]
    rfl

/-- An instruction that steps its operand by `f`, which is `g` on numbers, writes the result, `N` and `Z`. -/
theorem readsModifiesWrites_of_step {mk : DataMode → Instr} {f : Word → Word} {g : Nat → Nat → Nat}
    (hexec : ∀ m s, exec (mk m) s = onData (opStepValue f) m s)
    (hresult : ∀ w v, trunc w (f v) = BitVec.ofNat 16 (g (bitsOf w) v.toNat)) :
    ReadsModifiesWrites mk (fun w v _ => g w v) none := by
  intro s h
  simp only [← hresult]
  refine ⟨?accumulator, fun m a0 a1 hm => ⟨_, exec_of_onData (hexec m s), ?memory⟩⟩
  case accumulator => exact (hexec .acc s).trans (congrArg Host.Outcome.next (setA_setNZ_of_inv h s.wM _))
  case memory => exact opStepValue_mem_of_inv f h hm

theorem trunc_add_one (w : Width) (v : Word) :
    trunc w (v + 1) = BitVec.ofNat 16 ((v.toNat + 1) % 2 ^ bitsOf w) := by
  apply BitVec.eq_of_toNat_eq
  rw [trunc_toNat, BitVec.toNat_ofNat, BitVec.toNat_add]
  cases w with
  | w8 => simp [bitsOf]; omega
  | w16 => simp [bitsOf]

theorem trunc_sub_one (w : Width) (v : Word) :
    trunc w (v - 1) = BitVec.ofNat 16 ((v.toNat + (2 ^ bitsOf w - 1)) % 2 ^ bitsOf w) := by
  apply BitVec.eq_of_toNat_eq
  rw [trunc_toNat, BitVec.toNat_ofNat, BitVec.toNat_sub]
  cases w <;> simp [bitsOf] <;> omega

/-- Settles O35: both step their operand, by `1` and by `2^w - 1`. -/
theorem incrementAndDecrement : Obligations.IncrementAndDecrement := by
  unfold Obligations.IncrementAndDecrement
  exact ⟨fun _ => rfl, readsModifiesWrites_of_step (fun _ _ => rfl) trunc_add_one,
    readsModifiesWrites_of_step (fun _ _ => rfl) trunc_sub_one⟩

end Sys2Proof.Machine
end

section
/-! `ADC` and `SBC` as R131 and R132 write them: the arithmetic unit, which computes on integers, ends with the
pseudocode's numbers (41_arithmetic_logic.md R131, R132). -/

namespace Sys2Proof.Machine

/-! ### Results and overflow -/

/-- The pseudocode's result as the unit answers it. -/
def SpecSum.toAluOut (r : SpecSum) : AluOut :=
  { res := BitVec.ofNat 16 r.res, v := r.v, c := r.cout }

theorem limit_eq (w : Width) : limit w = ((2 ^ bitsOf w : Nat) : Int) := by cases w <;> rfl

/-- A narrowed result is its residue by `2^w` (00_scope.md R9). -/
theorem narrow_toNat (w : Width) (r : Int) : (narrow w r).toNat = intLow r (2 ^ bitsOf w) := by
  rw [narrow, trunc_toNat, BitVec.toNat_ofInt, intLow]
  cases w with
  | w8 => simp only [bitsOf]; omega
  | w16 => simp only [bitsOf]; omega

theorem narrow_eq_ofNat (w : Width) (r : Int) : narrow w r = BitVec.ofNat 16 (intLow r (2 ^ bitsOf w)) := by
  rw [← narrow_toNat, BitVec.ofNat_toNat, BitVec.setWidth_eq]

theorem intLow_natCast (n size : Nat) : intLow n size = n % size := by
  rw [intLow, ← Int.natCast_mod, Int.toNat_natCast]

/-- The overflow test of R131 on a sum that is no negative number. -/
theorem overflow_natCast (w : Width) (a m : Word) (r : Nat) :
    overflow w a m r = specOverflow a.toNat m.toNat r (bitsOf w - 1) := by
  have htop : bitsOf w - 1 < 16 := by cases w <;> decide
  have hr : (BitVec.ofInt 16 r).getLsbD (bitsOf w - 1) = r.testBit (bitsOf w - 1) := by
    rw [BitVec.ofInt_natCast, BitVec.getLsbD_ofNat, decide_eq_true htop, Bool.true_and]
  rw [overflow, msb_eq_getLsbD, BitVec.getLsbD_and, BitVec.getLsbD_not, BitVec.getLsbD_xor,
    BitVec.getLsbD_xor, hr, decide_eq_true htop, Bool.true_and, specOverflow, Nat.testBit_xor,
    Nat.testBit_xor]
  rfl

/-- The operand that `SBC` adds is the one's complement at its width (R132). -/
theorem xor_maskOf_toNat (w : Width) (m : Word) :
    (m ^^^ maskOf w).toNat = m.toNat ^^^ (2 ^ bitsOf w - 1) := by
  rw [BitVec.toNat_xor]
  cases w <;> rfl

/-! ### Binary (R131 with `P.D = 0`) -/

theorem carryInt_eq (c : Bool) : carryInt c = (c.toNat : Int) := by cases c <;> rfl

theorem addBinary_eq (w : Width) (a m : Word) (c : Bool) :
    addBinary w a m c = (specAdcBinary (bitsOf w) a.toNat m.toNat c.toNat).toAluOut := by
  rw [addBinary, carryInt_eq, ← Nat.cast_add, ← Nat.cast_add, narrow_eq_ofNat, intLow_natCast,
    overflow_natCast, limit_eq]
  simp only [specAdcBinary, SpecSum.toAluOut, ge_iff_le, Nat.cast_le]

/-! ### Decimal (R131 and R132 with `P.D = 1`) -/

/-- Digit `j` by its mask: `v & (0xF << 4j)`. -/
theorem and_digitMask (v j : Nat) : v &&& (15 * 16 ^ j) = v / 16 ^ j % 16 * 16 ^ j := by
  have hweight : 16 ^ j = 2 ^ (4 * j) := by rw [Nat.pow_mul]
  have hmask : 15 * 16 ^ j = (2 ^ 4 - 1) <<< (4 * j) := by rw [hweight, Nat.shiftLeft_eq]; rfl
  rw [hmask, hweight, ← Nat.shiftLeft_eq]
  apply Nat.eq_of_testBit_eq
  intro i
  rw [Nat.testBit_and, Nat.testBit_shiftLeft, Nat.testBit_shiftLeft, Nat.testBit_two_pow_sub_one,
    show (16 : Nat) = 2 ^ 4 from rfl, Nat.testBit_mod_two_pow, Nat.testBit_div_two_pow]
  by_cases hi : 4 * j ≤ i <;> simp [hi, Bool.and_comm]

theorem digitAt_eq_and (v : Word) (j : Nat) :
    digitAt v (16 ^ j) = ((v.toNat &&& (15 * 16 ^ j) : Nat) : Int) := by
  rw [and_digitMask, digitAt]
  push_cast
  rfl

/-- R132 at the digit of weight `b`: the digits, the carry of the sum `r` of the lower ones, and what is left of
it. -/
def sbcLine (a m b : Nat) (r : Int) : Nat :=
  (a &&& (15 * b)) + (m &&& (15 * b)) + (if r > (b : Int) - 1 then b else 0) + intLow r b

/-- R131 at the digit of weight `b`. -/
def adcLine (a m b r : Nat) : Nat :=
  (a &&& (15 * b)) + (m &&& (15 * b)) + (if r > b - 1 then b else 0) + (r &&& (b - 1))

/-- The correction of R131 at the digit of weight `b`. -/
def adcFix (b r : Nat) : Nat := if r > 10 * b - 1 then r + 6 * b else r

theorem digitStep_eq_sbcLine (a m : Word) (j : Nat) (r : Int) :
    digitStep a m ((16 ^ j : Nat) : Int) r = sbcLine a.toNat m.toNat (16 ^ j) r := by
  have hlow : ((intLow r (16 ^ j) : Nat) : Int) = r % ((16 ^ j : Nat) : Int) := by
    rw [intLow, Int.toNat_of_nonneg (Int.emod_nonneg _ (by positivity))]
  rw [digitStep, sbcLine, Nat.cast_add, Nat.cast_add, Nat.cast_add, hlow, ← digitAt_eq_and, ← digitAt_eq_and]
  push_cast
  rfl

theorem sbcLine_natCast (a m j r : Nat) : sbcLine a m (16 ^ j) r = adcLine a m (16 ^ j) r := by
  have hpos : 0 < 16 ^ j := by positivity
  have hcarry : (r : Int) > ((16 ^ j : Nat) : Int) - 1 ↔ r > 16 ^ j - 1 := by omega
  have hlow : r % 16 ^ j = r &&& (16 ^ j - 1) := by
    rw [show 16 ^ j = 2 ^ (4 * j) by rw [Nat.pow_mul], Nat.and_two_pow_sub_one_eq_mod]
  rw [sbcLine, adcLine, intLow_natCast, hlow]
  simp only [hcarry]

theorem fixAdd_natCast (j r : Nat) : fixAdd ((16 ^ j : Nat) : Int) r = adcFix (16 ^ j) r := by
  have hpos : 0 < 16 ^ j := by positivity
  have hfix : (r : Int) > 10 * ((16 ^ j : Nat) : Int) - 1 ↔ r > 10 * 16 ^ j - 1 := by omega
  rw [fixAdd, adcFix]
  simp only [hfix]
  push_cast
  rfl

/-- Two lines of R131: the correction at one digit, then the sum at the next. -/
theorem digitStep_fixAdd (a m : Word) (j : Nat) {r : Int} {n : Nat} (h : r = n) :
    digitStep a m ((16 ^ (j + 1) : Nat) : Int) (fixAdd ((16 ^ j : Nat) : Int) r) =
      adcLine a.toNat m.toNat (16 ^ (j + 1)) (adcFix (16 ^ j) n) := by
  rw [h, fixAdd_natCast, digitStep_eq_sbcLine, sbcLine_natCast]

theorem digitFirst_eq (a m : Word) (c : Bool) :
    digitFirst a m c = ((a.toNat &&& 15) + (m.toNat &&& 15) + c.toNat : Nat) := by
  rw [digitFirst, carryInt_eq, Nat.cast_add, Nat.cast_add]
  exact congrArg₂ (· + · + _) (digitAt_eq_and a 0) (digitAt_eq_and m 0)

/-- Two lines of R132. -/
theorem digitStep_fixSub (a m : Word) (j : Nat) {r : Int} {n : Nat} (h : r = n) :
    digitStep a m ((16 ^ (j + 1) : Nat) : Int) (fixSub ((16 ^ j : Nat) : Int) r) =
      sbcLine a.toNat m.toNat (16 ^ (j + 1)) (fixSub ((16 ^ j : Nat) : Int) n) := by
  rw [h, digitStep_eq_sbcLine]

theorem fixSub_natCast (j r : Nat) :
    fixSub ((16 ^ j : Nat) : Int) r = if r ≤ 16 * 16 ^ j - 1 then (r : Int) - (6 * 16 ^ j : Nat) else r := by
  have hpos : 0 < 16 ^ j := by positivity
  have hfix : (r : Int) ≤ 16 * ((16 ^ j : Nat) : Int) - 1 ↔ r ≤ 16 * 16 ^ j - 1 := by omega
  rw [fixSub]
  simp only [hfix]
  push_cast
  rfl

/-- The end of both decimal sums: `V` from the sum before the last correction, the result and `C` from after it. -/
theorem addDecimal_eq {fix : Int → Int → Int} {w : Width} {a m : Word} {c : Bool} {top : Nat} {r : Int}
    (htop : decimalTop fix w a m c = top) (hr : fix (topWeight w) top = r) :
    addDecimal fix w a m c = SpecSum.toAluOut
      { res := intLow r (2 ^ bitsOf w)
        v := specOverflow a.toNat m.toNat top (bitsOf w - 1)
        cout := decide (r > limit w - 1) } := by
  simp only [addDecimal, htop, hr, narrow_eq_ofNat, overflow_natCast, SpecSum.toAluOut]

/-- The same where the last correction is that of R131. -/
theorem addDecimal_fixAdd_eq {w : Width} {a m : Word} {c : Bool} {top j : Nat}
    (hweight : topWeight w = ((16 ^ j : Nat) : Int)) (htop : decimalTop fixAdd w a m c = top) :
    addDecimal fixAdd w a m c = SpecSum.toAluOut
      { res := adcFix (16 ^ j) top % 2 ^ bitsOf w
        v := specOverflow a.toNat m.toNat top (bitsOf w - 1)
        cout := decide (adcFix (16 ^ j) top > 2 ^ bitsOf w - 1) } := by
  have hlimit := Nat.two_pow_pos (bitsOf w)
  have hcarry : ((adcFix (16 ^ j) top : Nat) : Int) > limit w - 1 ↔
      adcFix (16 ^ j) top > 2 ^ bitsOf w - 1 := by
    rw [limit_eq]
    omega
  rw [addDecimal_eq htop (by rw [hweight, fixAdd_natCast]), intLow_natCast]
  simp only [hcarry]

theorem addDecimal_fixAdd_w8 (a m : Word) (c : Bool) :
    addDecimal fixAdd .w8 a m c = (specAdcDecimal8 a.toNat m.toNat c.toNat).toAluOut :=
  addDecimal_fixAdd_eq (w := .w8) (j := 1) rfl (digitStep_fixAdd a m 0 (digitFirst_eq a m c))

theorem addDecimal_fixAdd_w16 (a m : Word) (c : Bool) :
    addDecimal fixAdd .w16 a m c = (specAdcDecimal16 a.toNat m.toNat c.toNat).toAluOut :=
  addDecimal_fixAdd_eq (w := .w16) (j := 3) rfl
    (digitStep_fixAdd a m 2 (digitStep_fixAdd a m 1 (digitStep_fixAdd a m 0 (digitFirst_eq a m c))))

theorem addDecimal_fixSub_w8 (a m : Word) (c : Bool) :
    addDecimal fixSub .w8 a m c = (specSbcDecimal8 a.toNat m.toNat c.toNat).toAluOut :=
  addDecimal_eq (w := .w8) (digitStep_fixSub a m 0 (digitFirst_eq a m c)) (fixSub_natCast 1 _)

theorem addDecimal_fixSub_w16 (a m : Word) (c : Bool) :
    addDecimal fixSub .w16 a m c = (specSbcDecimal16 a.toNat m.toNat c.toNat).toAluOut :=
  addDecimal_eq (w := .w16)
    (digitStep_fixSub a m 2 (digitStep_fixSub a m 1 (digitStep_fixSub a m 0 (digitFirst_eq a m c))))
    (fixSub_natCast 3 _)

/-- The unit's `ADC` is R131. -/
theorem adcOut_eq (d : Bool) (w : Width) (a m : Word) (c : Bool) :
    adcOut d w a m c = (specAdc d w a.toNat m.toNat c.toNat).toAluOut := by
  cases d with
  | false => exact addBinary_eq w a m c
  | true =>
    cases w with
    | w8 => exact addDecimal_fixAdd_w8 a m c
    | w16 => exact addDecimal_fixAdd_w16 a m c

/-- The unit's `SBC` is R132. -/
theorem sbcOut_eq (d : Bool) (w : Width) (a m : Word) (c : Bool) :
    sbcOut d w a m c = (specSbc d w a.toNat m.toNat c.toNat).toAluOut := by
  unfold specSbc
  rw [← xor_maskOf_toNat]
  cases d with
  | false => exact addBinary_eq w a (m ^^^ maskOf w) c
  | true =>
    cases w with
    | w8 => exact addDecimal_fixSub_w8 a (m ^^^ maskOf .w8) c
    | w16 => exact addDecimal_fixSub_w16 a (m ^^^ maskOf .w16) c

/-! ### The instructions -/

/-- `ADC` and `SBC` end with `A`, `N`, `Z`, `V` and `C`. -/
theorem setSum_of_inv {s : State} (h : s.Inv) (r : AluOut) :
    s.setSum r = { s with
      a := accWith s.wM s.a r.res
      p := withMask (withMask (withNZ s.p s.wM r.res) maskV r.v) maskC r.c } := by
  have hnz := (setA_setNZ_writesOnly s s.wM r.res s.wM r.res h).1
  rw [State.setSum, setFlag_of_inv (hnz.setFlag rfl rfl _) rfl rfl, setFlag_of_inv hnz rfl rfl,
    setA_setNZ_of_inv h]

/-- Settles O27: the operand is read, and the unit's sum, which is R131's, is written. -/
theorem adcAddsWithCarry : Obligations.AdcAddsWithCarry := by
  unfold Obligations.AdcAddsWithCarry
  refine ⟨fun _ => rfl, fun m => .of_onData (fun _ => rfl) fun s h => ?_⟩
  rw [opAdc, State.pointerRead_wM, getValue_pointerRead, setSum_of_inv (h.operandRead m s.wM), adcOut_eq]
  rfl

/-- Settles O28: the same with the difference of R132. -/
theorem sbcSubtractsWithBorrow : Obligations.SbcSubtractsWithBorrow := by
  unfold Obligations.SbcSubtractsWithBorrow
  refine ⟨fun _ => rfl, fun m => .of_onData (fun _ => rfl) fun s h => ?_⟩
  rw [opSbc, State.pointerRead_wM, getValue_pointerRead, setSum_of_inv (h.operandRead m s.wM), sbcOut_eq]
  rfl

end Sys2Proof.Machine
end

section
/-! What `ADC` and `SBC` compute: integers in binary mode, decimal numbers in decimal mode (41_arithmetic_logic.md R131,
R132, R148). -/

namespace Sys2Proof.Machine

/-! ### Values of a width -/

theorem toNat_lt_of_trunc {w : Width} {v : Word} (h : trunc w v = v) : v.toNat < 2 ^ bitsOf w := by
  rw [← h, trunc_toNat]
  exact Nat.mod_lt _ (Nat.two_pow_pos _)

/-- The complement that `SBC` adds, as a number (R132). -/
theorem toNat_xor_maskOf {w : Width} {m : Word} (hm : trunc w m = m) :
    (m ^^^ maskOf w).toNat = 2 ^ bitsOf w - 1 - m.toNat := by
  have hlt := toNat_lt_of_trunc hm
  rw [xor_maskOf_toNat]
  apply Nat.eq_of_testBit_eq
  intro i
  rw [Nat.sub_sub, Nat.add_comm, Nat.testBit_two_pow_sub_succ hlt, Nat.testBit_xor, Nat.testBit_two_pow_sub_one]
  by_cases hi : i < bitsOf w
  · simp [hi]
  · simp [hi, Nat.testBit_lt_two_pow (hlt.trans_le (Nat.pow_le_pow_right (by decide) (Nat.not_lt.mp hi)))]

/-- The signed value in two's complement. -/
theorem signedOf_eq {w : Width} {v : Word} (h : trunc w v = v) :
    signedOf w v = if 2 * v.toNat < 2 ^ bitsOf w then (v.toNat : Int) else v.toNat - (2 ^ bitsOf w : Nat) := by
  have hlt := toNat_lt_of_trunc h
  cases w with
  | w8 =>
    have hlo : (lo v).toNat = v.toNat := (lo_toNat v).trans (Nat.mod_eq_of_lt hlt)
    rw [signedOf, BitVec.toInt_eq_toNat_cond, hlo]
    rfl
  | w16 => exact BitVec.toInt_eq_toNat_cond v

theorem trunc_xor_maskOf {w : Width} {m : Word} (hm : trunc w m = m) :
    trunc w (m ^^^ maskOf w) = m ^^^ maskOf w := by
  apply BitVec.eq_of_toNat_eq
  rw [trunc_toNat, Nat.mod_eq_of_lt]
  rw [toNat_xor_maskOf hm]
  have := Nat.two_pow_pos (bitsOf w)
  omega

/-- Complementing negates and takes one away. -/
theorem signedOf_xor_maskOf {w : Width} {m : Word} (hm : trunc w m = m) :
    signedOf w (m ^^^ maskOf w) = -1 - signedOf w m := by
  have hlt := toNat_lt_of_trunc hm
  rw [signedOf_eq (trunc_xor_maskOf hm), signedOf_eq hm, toNat_xor_maskOf hm]
  cases w <;> simp only [bitsOf] at hlt ⊢ <;> omega

/-- Overflow: the operands have one sign and the result the other (R131). -/
theorem specOverflow_iff (a m r i : Nat) :
    specOverflow a m r i = true ↔
      (a / 2 ^ i % 2 = 1 ↔ m / 2 ^ i % 2 = 1) ∧ ¬ (a / 2 ^ i % 2 = 1 ↔ r / 2 ^ i % 2 = 1) := by
  have bit (n : Nat) : n / 2 ^ i % 2 = 1 ↔ n.testBit i = true := by
    rw [Nat.testBit_eq_decide_div_mod_eq, decide_eq_true_eq]
  rw [specOverflow, Nat.testBit_xor, Nat.testBit_xor, bit, bit, bit, ← Bool.eq_iff_iff, ← Bool.eq_iff_iff]
  simp

/-- `C` clear is a borrow of one (R132). -/
theorem toNat_add_borrow (c : Bool) : c.toNat + (if c then 0 else 1) = 1 := by cases c <;> rfl

/-! ### Binary (R148) -/

/-- A number below `2n` is its residue by `n` and a carry. -/
theorem mod_add_carry {r n : Nat} (h : r < 2 * n) : r % n + (if decide (r ≥ n) then n else 0) = r := by
  rcases Nat.lt_or_ge r n with hlt | hge
  · simp [Nat.mod_eq_of_lt hlt, hlt.not_ge]
  · have hmod : r % n = r - n := by rw [Nat.mod_eq_sub_mod hge, Nat.mod_eq_of_lt (by omega)]
    simp [hmod, hge]

/-- The result and the carry are the two digits of the sum to the base `2^w`. -/
theorem addBinary_exact {w : Width} {a m : Word} (ha : trunc w a = a) (hm : trunc w m = m) (c : Bool) :
    (addBinary w a m c).res.toNat + (if (addBinary w a m c).c then 2 ^ bitsOf w else 0) =
      a.toNat + m.toNat + c.toNat := by
  have halt := toNat_lt_of_trunc ha
  have hmlt := toNat_lt_of_trunc hm
  have hc := c.toNat_le
  have hres : (addBinary w a m c).res.toNat = (a.toNat + m.toNat + c.toNat) % 2 ^ bitsOf w := by
    rw [addBinary, narrow_toNat, carryInt_eq, ← Nat.cast_add, ← Nat.cast_add, intLow_natCast]
  rw [hres, addBinary_eq]
  exact mod_add_carry (by omega)

/-- `V` says that the signed sum does not fit. -/
theorem addBinary_overflow_iff {w : Width} {a m : Word} (ha : trunc w a = a) (hm : trunc w m = m) (c : Bool) :
    (addBinary w a m c).v = true ↔
      ¬ (-(((2 ^ bitsOf w : Nat) : Int) / 2) ≤ signedOf w a + signedOf w m + c.toNat ∧
        signedOf w a + signedOf w m + c.toNat < ((2 ^ bitsOf w : Nat) : Int) / 2) := by
  have halt := toNat_lt_of_trunc ha
  have hmlt := toNat_lt_of_trunc hm
  have hc := c.toNat_le
  rw [addBinary_eq, signedOf_eq ha, signedOf_eq hm]
  simp only [SpecSum.toAluOut, specAdcBinary, specOverflow_iff]
  cases w with
  | w8 => simp only [bitsOf] at halt hmlt ⊢; split_ifs <;> omega
  | w16 => simp only [bitsOf] at halt hmlt ⊢; split_ifs <;> omega

/-- Settles O29: `SBC` is `ADC` of the complement, so both clauses are those of the sum. -/
theorem binaryArithmeticIsInteger : Obligations.BinaryArithmeticIsInteger := by
  unfold Obligations.BinaryArithmeticIsInteger
  intro w a m c ha hm n add sub
  have hm' := trunc_xor_maskOf hm
  have hmlt := toNat_lt_of_trunc hm
  refine ⟨addBinary_exact ha hm c, ?difference, addBinary_overflow_iff ha hm c, ?overflow⟩
  case difference =>
    have hsum : sub.res.toNat + (if sub.c then n else 0) = a.toNat + (m ^^^ maskOf w).toNat + c.toNat :=
      addBinary_exact ha hm' c
    have hcomplement := toNat_xor_maskOf hm
    have hborrow := toNat_add_borrow c
    split_ifs at hborrow hsum ⊢ <;> omega
  case overflow =>
    have hv : sub.v = true ↔ _ := addBinary_overflow_iff ha hm' c
    have hdiff : signedOf w a + signedOf w (m ^^^ maskOf w) + c.toNat =
        signedOf w a - signedOf w m - (1 - c.toNat) := by
      rw [signedOf_xor_maskOf hm]
      ring
    rwa [hdiff] at hv

end Sys2Proof.Machine
end

section
/-! Decimal `ADC` and `SBC` on binary-coded decimals: digit by digit from the lowest, the corrected sum is a carry and
decimal digits (41_arithmetic_logic.md R131, R132). -/

namespace Sys2Proof.Machine

/-! ### Binary-coded decimal, digit by digit -/

theorem isBcd_succ (j v : Nat) : isBcd (4 * (j + 1)) v ↔ isBcd (4 * j) v ∧ bcdDigit v j ≤ 9 := by
  constructor
  · exact fun h => ⟨fun i hi => h i (by omega), h j (by omega)⟩
  · rintro ⟨hlow, hj⟩ i hi
    rcases Nat.lt_or_ge i j with hij | hij
    · exact hlow i (by omega)
    · obtain rfl : i = j := by omega
      exact hj

theorem bcdValue_succ (j v : Nat) : bcdValue (4 * (j + 1)) v = bcdValue (4 * j) v + bcdDigit v j * 10 ^ j := by
  simp [bcdValue, List.range_succ]

theorem bcdDigit_high {j low d : Nat} (hlow : low < 16 ^ j) (hd : d < 16) : bcdDigit (d * 16 ^ j + low) j = d := by
  rw [bcdDigit, Nat.add_comm, Nat.add_mul_div_right _ _ (by positivity), Nat.div_eq_of_lt hlow, Nat.zero_add,
    Nat.mod_eq_of_lt hd]

theorem bcdDigit_low {i j : Nat} (hij : i < j) (low d : Nat) : bcdDigit (d * 16 ^ j + low) i = bcdDigit low i := by
  obtain ⟨n, rfl⟩ := Nat.exists_eq_add_of_lt hij
  have hweight : d * 16 ^ (i + n + 1) = d * 16 ^ n * 16 * 16 ^ i := by ring
  rw [bcdDigit, hweight, Nat.add_comm, Nat.add_mul_div_right _ _ (by positivity), Nat.add_mul_mod_self_right,
    bcdDigit]

theorem isBcd_cons {j low d : Nat} (hlow : low < 16 ^ j) (hbcd : isBcd (4 * j) low) (hd : d ≤ 9) :
    isBcd (4 * (j + 1)) (d * 16 ^ j + low) := by
  rw [isBcd_succ, bcdDigit_high hlow (by omega)]
  refine ⟨fun i hi => ?_, hd⟩
  rw [bcdDigit_low (by omega)]
  exact hbcd i hi

theorem bcdValue_cons {j low d : Nat} (hlow : low < 16 ^ j) (hd : d ≤ 9) :
    bcdValue (4 * (j + 1)) (d * 16 ^ j + low) = bcdValue (4 * j) low + d * 10 ^ j := by
  have hdigits : bcdValue (4 * j) (d * 16 ^ j + low) = bcdValue (4 * j) low := by
    refine congrArg List.sum (List.map_congr_left fun i hi => ?_)
    rw [bcdDigit_low (by simpa using hi)]
  rw [bcdValue_succ, hdigits, bcdDigit_high hlow (by omega)]

/-! ### The sum up to a digit -/

/-- The corrected sum of the low `j` digits (R131, R132). -/
def correctedSum (fix : Int → Int → Int) (a m : Word) (c : Bool) : Nat → Int
  | 0 => carryInt c
  | j + 1 => fix ((16 ^ j : Nat) : Int) (digitStep a m ((16 ^ j : Nat) : Int) (correctedSum fix a m c j))

/-- The lowest digit's sum is a line whose carry is the flag. -/
theorem digitFirst_eq_digitStep (a m : Word) (c : Bool) : digitFirst a m c = digitStep a m 1 (carryInt c) := by
  cases c <;> simp [digitFirst, digitStep, carryInt]

/-- How many digits a width has. -/
def digitsOf (w : Width) : Nat := bitsOf w / 4

theorem bitsOf_eq (w : Width) : bitsOf w = 4 * digitsOf w := by cases w <;> rfl

theorem two_pow_bitsOf (w : Width) : 2 ^ bitsOf w = 16 ^ digitsOf w := by cases w <;> rfl

/-- The sum that the unit narrows is the corrected sum of all digits. -/
theorem fix_decimalTop (fix : Int → Int → Int) (w : Width) (a m : Word) (c : Bool) :
    fix (topWeight w) (decimalTop fix w a m c) = correctedSum fix a m c (digitsOf w) := by
  unfold decimalTop
  rw [digitFirst_eq_digitStep]
  cases w <;> rfl

/-- `r` is the carry `k` and below it `low`, which is `j` decimal digits. -/
structure DecimalSum (j : Nat) (r : Int) (k low : Nat) : Prop where
  sum : r = ((k * 16 ^ j + low : Nat) : Int)
  carry : k ≤ 1
  below : low < 16 ^ j
  bcd : isBcd (4 * j) low

theorem DecimalSum.zero (c : Bool) : DecimalSum 0 (carryInt c) c.toNat 0 where
  sum := by simp [carryInt_eq]
  carry := c.toNat_le
  below := by simp
  bcd := nofun

/-- A line adds the two digits and the carry (R131, R132). -/
theorem DecimalSum.digitStep_eq {j k low : Nat} {r : Int} (h : DecimalSum j r k low) (a m : Word) :
    digitStep a m ((16 ^ j : Nat) : Int) r =
      (((bcdDigit a.toNat j + bcdDigit m.toNat j + k) * 16 ^ j + low : Nat) : Int) := by
  obtain ⟨rfl, hk, hlow, -⟩ := h
  have hmod : (k * 16 ^ j + low) % 16 ^ j = low := by
    rw [Nat.add_comm, Nat.add_mul_mod_self_right, Nat.mod_eq_of_lt hlow]
  have hcarry : (if ((k * 16 ^ j + low : Nat) : Int) > ((16 ^ j : Nat) : Int) - 1 then 16 ^ j else 0) =
      k * 16 ^ j := by
    obtain rfl | rfl : k = 0 ∨ k = 1 := by omega
    · rw [if_neg (by omega), Nat.zero_mul]
    · rw [if_pos (by omega), Nat.one_mul]
  rw [digitStep_eq_sbcLine, sbcLine, hcarry, intLow_natCast, hmod, and_digitMask, and_digitMask]
  simp only [bcdDigit, Nat.add_mul]

/-- A correction that leaves a decimal digit `d` and a carry `k'` leaves a decimal sum of one digit more. -/
theorem DecimalSum.next {fix : Int → Int → Int} {j k low k' d : Nat} {r : Int} (h : DecimalSum j r k low)
    (a m : Word) (hk' : k' ≤ 1) (hd : d ≤ 9)
    (hfix : fix ((16 ^ j : Nat) : Int)
        (((bcdDigit a.toNat j + bcdDigit m.toNat j + k) * 16 ^ j + low : Nat) : Int) =
      (((k' * 16 + d) * 16 ^ j + low : Nat) : Int)) :
    DecimalSum (j + 1) (fix ((16 ^ j : Nat) : Int) (digitStep a m ((16 ^ j : Nat) : Int) r)) k'
      (d * 16 ^ j + low) where
  sum := by
    rw [h.digitStep_eq, hfix]
    congr 1
    ring
  carry := hk'
  below := by
    have hlow := h.below
    have hd' : d * 16 ^ j ≤ 9 * 16 ^ j := Nat.mul_le_mul_right _ hd
    rw [Nat.pow_succ]
    omega
  bcd := isBcd_cons h.below h.bcd hd

/-- The unit's result is the digits of the sum, and its carry the sum's. -/
theorem DecimalSum.addDecimal_eq {fix : Int → Int → Int} {w : Width} {a m : Word} {c : Bool} {k low : Nat}
    (h : DecimalSum (digitsOf w) (correctedSum fix a m c (digitsOf w)) k low) :
    (addDecimal fix w a m c).res.toNat = low ∧ (addDecimal fix w a m c).c = decide (k = 1) := by
  obtain ⟨hsum, hk, hlow, -⟩ := h
  have htop : fix (topWeight w) (decimalTop fix w a m c) = ((k * 16 ^ digitsOf w + low : Nat) : Int) :=
    (fix_decimalTop fix w a m c).trans hsum
  have hcarry : ((k * 16 ^ digitsOf w + low : Nat) : Int) > ((16 ^ digitsOf w : Nat) : Int) - 1 ↔ k = 1 := by
    generalize 16 ^ digitsOf w = b at hlow ⊢
    obtain rfl | rfl : k = 0 ∨ k = 1 := by omega
    all_goals omega
  simp only [addDecimal, htop, narrow_toNat, intLow_natCast, limit_eq, two_pow_bitsOf, hcarry, and_true]
  rw [Nat.add_comm, Nat.add_mul_mod_self_right, Nat.mod_eq_of_lt hlow]

/-! ### Addition -/

/-- A digit sum of 9 or less needs no correction (R131). -/
theorem fixAdd_of_le {j s low : Nat} (hs : s ≤ 9) (hlow : low < 16 ^ j) :
    fixAdd ((16 ^ j : Nat) : Int) ((s * 16 ^ j + low : Nat) : Int) = (((0 * 16 + s) * 16 ^ j + low : Nat) : Int) := by
  have hs' : s * 16 ^ j ≤ 9 * 16 ^ j := Nat.mul_le_mul_right _ hs
  rw [fixAdd_natCast, adcFix, if_neg (by omega), Nat.zero_mul, Nat.zero_add]

/-- A digit sum of 10 or more is corrected to a carry and the digit 10 below it (R131). -/
theorem fixAdd_of_ge {j s low : Nat} (hs : 10 ≤ s) :
    fixAdd ((16 ^ j : Nat) : Int) ((s * 16 ^ j + low : Nat) : Int) =
      (((1 * 16 + (s - 10)) * 16 ^ j + low : Nat) : Int) := by
  have hpos : 0 < 16 ^ j := by positivity
  have hs' : 10 * 16 ^ j ≤ s * 16 ^ j := Nat.mul_le_mul_right _ hs
  rw [fixAdd_natCast, adcFix, if_pos (by omega), show 1 * 16 + (s - 10) = s + 6 by omega, Nat.add_mul]
  congr 1
  omega

/-- The correction of addition splits a sum of two decimal digits and a carry into a carry and a digit. -/
theorem fixAdd_digit {j s low : Nat} (hs : s ≤ 19) (hlow : low < 16 ^ j) :
    ∃ k d, k ≤ 1 ∧ d ≤ 9 ∧ d + 10 * k = s ∧ fixAdd ((16 ^ j : Nat) : Int) ((s * 16 ^ j + low : Nat) : Int) =
      (((k * 16 + d) * 16 ^ j + low : Nat) : Int) := by
  rcases Nat.lt_or_ge s 10 with hlt | hge
  · exact ⟨0, s, by omega, by omega, by omega, fixAdd_of_le (by omega) hlow⟩
  · exact ⟨1, s - 10, by omega, by omega, by omega, fixAdd_of_ge hge⟩

/-- The corrected sum of BCD operands is their decimal sum. -/
theorem correctedSum_fixAdd {a m : Word} (c : Bool) (j : Nat) (ha : isBcd (4 * j) a.toNat)
    (hm : isBcd (4 * j) m.toNat) :
    ∃ k low, DecimalSum j (correctedSum fixAdd a m c j) k low ∧
      bcdValue (4 * j) low + k * 10 ^ j = bcdValue (4 * j) a.toNat + bcdValue (4 * j) m.toNat + c.toNat := by
  induction j with
  | zero => exact ⟨_, _, .zero c, by simp [bcdValue]⟩
  | succ j ih =>
    obtain ⟨ha, hda⟩ := (isBcd_succ j _).mp ha
    obtain ⟨hm, hdm⟩ := (isBcd_succ j _).mp hm
    obtain ⟨k, low, hsum, hvalue⟩ := ih ha hm
    have hk := hsum.carry
    obtain ⟨k', d, hk', hd, hdigit, hfix⟩ :=
      fixAdd_digit (s := bcdDigit a.toNat j + bcdDigit m.toNat j + k) (by omega) hsum.below
    refine ⟨k', _, hsum.next a m hk' hd hfix, ?_⟩
    rw [bcdValue_cons hsum.below hd, bcdValue_succ, bcdValue_succ]
    calc bcdValue (4 * j) low + d * 10 ^ j + k' * 10 ^ (j + 1)
        = bcdValue (4 * j) low + (d + 10 * k') * 10 ^ j := by ring
      _ = (bcdValue (4 * j) low + k * 10 ^ j) + (bcdDigit a.toNat j + bcdDigit m.toNat j) * 10 ^ j := by
        rw [hdigit]; ring
      _ = _ := by rw [hvalue]; ring

/-! ### Subtraction -/

/-- A digit sum without carry is a borrow: the digit is 6 below it (R132). -/
theorem fixSub_of_le {j s low : Nat} (hs6 : 6 ≤ s) (hs : s ≤ 15) (hlow : low < 16 ^ j) :
    fixSub ((16 ^ j : Nat) : Int) ((s * 16 ^ j + low : Nat) : Int) =
      (((0 * 16 + (s - 6)) * 16 ^ j + low : Nat) : Int) := by
  have hs' : s * 16 ^ j ≤ 15 * 16 ^ j := Nat.mul_le_mul_right _ hs
  obtain ⟨d, rfl⟩ := Nat.exists_eq_add_of_le hs6
  rw [fixSub_natCast, if_pos (by omega), Nat.add_sub_cancel_left, Nat.add_mul]
  push_cast
  ring

/-- A digit sum with a carry needs no correction (R132). -/
theorem fixSub_of_ge {j s low : Nat} (hs : 16 ≤ s) :
    fixSub ((16 ^ j : Nat) : Int) ((s * 16 ^ j + low : Nat) : Int) =
      (((1 * 16 + (s - 16)) * 16 ^ j + low : Nat) : Int) := by
  have hpos : 0 < 16 ^ j := by positivity
  have hs' : 16 * 16 ^ j ≤ s * 16 ^ j := Nat.mul_le_mul_right _ hs
  rw [fixSub_natCast, if_neg (by omega), show 1 * 16 + (s - 16) = s by omega]

/-- The correction of subtraction splits a digit, a complemented digit and a carry into a carry and a digit. -/
theorem fixSub_digit {j s low : Nat} (hs6 : 6 ≤ s) (hs : s ≤ 25) (hlow : low < 16 ^ j) :
    ∃ k d, k ≤ 1 ∧ d ≤ 9 ∧ d + 10 * k + 6 = s ∧ fixSub ((16 ^ j : Nat) : Int) ((s * 16 ^ j + low : Nat) : Int) =
      (((k * 16 + d) * 16 ^ j + low : Nat) : Int) := by
  rcases Nat.lt_or_ge s 16 with hlt | hge
  · exact ⟨0, s - 6, by omega, by omega, by omega, fixSub_of_le hs6 (by omega) hlow⟩
  · exact ⟨1, s - 16, by omega, by omega, by omega, fixSub_of_ge hge⟩

/-- The corrected sum with the complement `n` of `m`, digit by digit, is the decimal difference. -/
theorem correctedSum_fixSub {a m n : Word} (c : Bool) (j : Nat) (ha : isBcd (4 * j) a.toNat)
    (hm : isBcd (4 * j) m.toNat) (hn : ∀ i < j, bcdDigit n.toNat i = 15 - bcdDigit m.toNat i) :
    ∃ k low, DecimalSum j (correctedSum fixSub a n c j) k low ∧
      bcdValue (4 * j) low + bcdValue (4 * j) m.toNat + 1 + k * 10 ^ j =
        bcdValue (4 * j) a.toNat + 10 ^ j + c.toNat := by
  induction j with
  | zero => exact ⟨_, _, .zero c, by simp [bcdValue]⟩
  | succ j ih =>
    obtain ⟨ha, hda⟩ := (isBcd_succ j _).mp ha
    obtain ⟨hm, hdm⟩ := (isBcd_succ j _).mp hm
    obtain ⟨k, low, hsum, hvalue⟩ := ih ha hm fun i hi => hn i (by omega)
    have hk := hsum.carry
    have hdn := hn j (by omega)
    obtain ⟨k', d, hk', hd, hcorrected, hfix⟩ :=
      fixSub_digit (s := bcdDigit a.toNat j + bcdDigit n.toNat j + k) (by omega) (by omega) hsum.below
    have hdigit : d + bcdDigit m.toNat j + 10 * k' = bcdDigit a.toNat j + 9 + k := by omega
    refine ⟨k', _, hsum.next a n hk' hd hfix, ?_⟩
    rw [bcdValue_cons hsum.below hd, bcdValue_succ, bcdValue_succ]
    calc bcdValue (4 * j) low + d * 10 ^ j + (bcdValue (4 * j) m.toNat + bcdDigit m.toNat j * 10 ^ j) + 1 +
          k' * 10 ^ (j + 1)
        = bcdValue (4 * j) low + bcdValue (4 * j) m.toNat + 1 +
            (d + bcdDigit m.toNat j + 10 * k') * 10 ^ j := by ring
      _ = (bcdValue (4 * j) low + bcdValue (4 * j) m.toNat + 1 + k * 10 ^ j) +
            (bcdDigit a.toNat j + 9) * 10 ^ j := by rw [hdigit]; ring
      _ = _ := by rw [hvalue]; ring

/-- The complement complements each digit (R132). -/
theorem bcdDigit_xor_maskOf {w : Width} {m : Word} (hm : trunc w m = m) {i : Nat} (hi : i < digitsOf w) :
    bcdDigit (m ^^^ maskOf w).toNat i = 15 - bcdDigit m.toNat i := by
  have hlt := toNat_lt_of_trunc hm
  rw [toNat_xor_maskOf hm, bcdDigit, bcdDigit]
  cases w with
  | w8 =>
    simp only [bitsOf, digitsOf] at hi hlt ⊢
    interval_cases i <;> omega
  | w16 =>
    simp only [bitsOf, digitsOf] at hi hlt ⊢
    interval_cases i <;> omega

/-- Settles O30: sum and difference, digit by digit, with the carry of the last one. -/
theorem decimalArithmeticIsDecimal : Obligations.DecimalArithmeticIsDecimal := by
  unfold Obligations.DecimalArithmeticIsDecimal
  intro w a m c ha hm hbcda hbcdm n val add sub
  have hn : n = 10 ^ digitsOf w := rfl
  simp only [val, hn]
  rw [bitsOf_eq] at hbcda hbcdm ⊢
  obtain ⟨k, low, hsum, hvalue⟩ := correctedSum_fixAdd c _ hbcda hbcdm
  obtain ⟨k', low', hdiff, hvalue'⟩ :=
    correctedSum_fixSub c _ hbcda hbcdm fun i hi => bcdDigit_xor_maskOf hm hi
  obtain ⟨hres, hc⟩ : add.res.toNat = low ∧ add.c = decide (k = 1) := hsum.addDecimal_eq
  obtain ⟨hres', hc'⟩ : sub.res.toNat = low' ∧ sub.c = decide (k' = 1) := hdiff.addDecimal_eq
  rw [hres, hres', hc, hc']
  refine ⟨hsum.bcd, hdiff.bcd, ?sum, ?difference⟩
  case sum =>
    have hcarry := hsum.carry
    rw [← hvalue]
    interval_cases k <;> simp
  case difference =>
    have hcarry := hdiff.carry
    have hborrow := toNat_add_borrow c
    interval_cases k' <;> simp at hvalue' ⊢ <;> omega

end Sys2Proof.Machine
end

section
/-! Loads, stores, transfers and block moves (42_load_store_transfer.md R161 to R183). -/

namespace Sys2Proof.Machine

/-! ### Writes of a register that set `N` and `Z` -/

@[simp] theorem trunc_accWith (w : Width) (a v : Word) : trunc w (accWith w a v) = trunc w v := by
  cases w with
  | w8 => simp [accWith, trunc]
  | w16 => rfl

/-- `N` and `Z` of `A` at width `w` are those of the value just written at that width (R30, R13). -/
@[simp] theorem withNZ_accWith (p : Byte) (w : Width) (a v : Word) :
    withNZ p w (accWith w a v) = withNZ p w v := by
  rw [← withNZ_trunc, trunc_accWith, withNZ_trunc]

/-- A write of `X` that sets `N` and `Z` at index width (R31, R13). -/
theorem setX_setNZ_of_inv {s : State} (h : s.Inv) (v u : Word) :
    (s.setX v).setNZ s.wX u = { s with x := trunc s.wX v, p := withNZ s.p s.wX u } := by
  rw [setNZ_of_inv (setX_writesOnly s v h).1, ← narrowIndex_eq_trunc]
  rfl

/-- A write of `Y` that sets `N` and `Z` at index width (R32, R13). -/
theorem setY_setNZ_of_inv {s : State} (h : s.Inv) (v u : Word) :
    (s.setY v).setNZ s.wX u = { s with y := trunc s.wX v, p := withNZ s.p s.wX u } := by
  rw [setNZ_of_inv (setY_writesOnly s v h).1, ← narrowIndex_eq_trunc]
  rfl

/-- An operand has no bit above its width (R90). -/
@[simp] theorem trunc_operand (s : State) (m : DataMode) (w : Width) :
    trunc w (s.operand m w).1 = (s.operand m w).1 :=
  getValue_trunc _ _ w

@[simp] theorem State.operandRead_wX (s : State) (m : DataMode) (w : Width) : (s.operandRead m w).wX = s.wX := rfl

/-! ### Loads (R161 to R163) -/

theorem opLda_of_inv {s : State} (h : s.Inv) (m : DataMode) :
    opLda (s.pointerRead m) (s.resolveData m).1 =
      let v := (s.operand m s.wM).1
      { s.operandRead m s.wM with a := accWith s.wM s.a v, p := withNZ s.p s.wM v } := by
  rw [opLda, State.pointerRead_wM, getValue_pointerRead]
  exact setA_setNZ_of_inv (h.operandRead m s.wM) s.wM _

theorem opLdx_of_inv {s : State} (h : s.Inv) (m : DataMode) :
    opLdx (s.pointerRead m) (s.resolveData m).1 =
      let v := (s.operand m s.wX).1
      { s.operandRead m s.wX with x := v, p := withNZ s.p s.wX v } := by
  have hset := setX_setNZ_of_inv (h.operandRead m s.wX) (s.operand m s.wX).1 (s.operand m s.wX).1
  rw [State.operandRead_wX, trunc_operand] at hset
  rw [opLdx, State.pointerRead_wX, getValue_pointerRead]
  exact hset

theorem opLdy_of_inv {s : State} (h : s.Inv) (m : DataMode) :
    opLdy (s.pointerRead m) (s.resolveData m).1 =
      let v := (s.operand m s.wX).1
      { s.operandRead m s.wX with y := v, p := withNZ s.p s.wX v } := by
  have hset := setY_setNZ_of_inv (h.operandRead m s.wX) (s.operand m s.wX).1 (s.operand m s.wX).1
  rw [State.operandRead_wX, trunc_operand] at hset
  rw [opLdy, State.pointerRead_wX, getValue_pointerRead]
  exact hset

/-- Settles O37: each load is a setter on the operand, which already has the register's width. -/
theorem loadsSetNZ : Obligations.LoadsSetNZ := by
  unfold Obligations.LoadsSetNZ
  refine ⟨fun _ => rfl, fun _ => rfl, fun _ => rfl, fun m => ?_⟩
  exact ⟨.of_onData (fun _ => rfl) fun s h => opLda_of_inv h m,
    .of_onData (fun _ => rfl) fun s h => opLdx_of_inv h m,
    .of_onData (fun _ => rfl) fun s h => opLdy_of_inv h m⟩

/-! ### Stores (R164 to R167) -/

/-- The writes of a store of a word are those of a read-modify-write store of the swapped word at the swapped
addresses (R58). -/
theorem storeOrder_w16 (a0 a1 : Addr) (v : Word) :
    storeOrder .w16 a0 a1 v = highFirst .w16 a1 a0 (word (lo v) (hi v)) := by
  simp [storeOrder, highFirst]

/-- A store writes the low `w` bits of its value (R11). -/
theorem storeOrder_trunc (w : Width) (a0 a1 : Addr) (v : Word) :
    storeOrder w a0 a1 (trunc w v) = storeOrder w a0 a1 v := by
  cases w with
  | w8 => simp [storeOrder, trunc, zext]
  | w16 => rfl

/-- Where memory is canonical and the addresses differ, the writes of a store leave its bytes and no others
(R51, R58). -/
theorem stores_storeOrder {s t : State} {a0 a1 : Addr} {w : Width} {v : Word} (hmem : Memory.wf s.mem = true)
    (hne : a0 ≠ a1) (ht : t = s.accessed (storeOrder w a0 a1 v)) :
    s.Stores t w a0 a1 v (storeOrder w a0 a1 v) := by
  cases w with
  | w8 => exact stores_highFirst hmem hne ht
  | w16 =>
    have swapped := stores_highFirst hmem hne.symm (ht.trans (by rw [storeOrder_w16]))
    refine ⟨ht, ?low, fun _ => ?high, fun n hn => swapped.rest n ?outside⟩
    case low => simpa using swapped.high rfl
    case high => simpa using swapped.low
    case outside => simpa [storedAt, and_comm] using hn

/-- A store at a memory locator (R164 to R167). -/
theorem opStore_of_inv {s : State} (h : s.Inv) {m : DataMode} {a0 a1 : Addr}
    (hm : (s.resolveData m).1 = .mem a0 a1) (w : Width) (v : Word) :
    (s.pointerRead m).Stores (opStore w v (s.pointerRead m) (s.resolveData m).1) w a0 a1 v
      (storeOrder w a0 a1 v) := by
  refine stores_storeOrder ?canonical (resolveData_mem_ne hm) ?run
  case canonical => exact h.memoryCanonical
  case run => rw [opStore, hm, State.putValue, State.writeMem_eq, storeOrder_trunc]

/-- Settles O38: the four stores are one operation, which stores at the locator of the mode. -/
theorem storesWriteMemoryOnly : Obligations.StoresWriteMemoryOnly := by
  unfold Obligations.StoresWriteMemoryOnly
  refine ⟨fun _ => rfl, fun _ => rfl, fun s m a0 a1 h hm => ?_⟩
  exact ⟨⟨_, exec_of_onData (operate := fun t => opStore t.wM t.a t) rfl, opStore_of_inv h hm s.wM s.a⟩,
    ⟨_, exec_of_onData (operate := fun t => opStore t.wX t.x t) rfl, opStore_of_inv h hm s.wX s.x⟩,
    ⟨_, exec_of_onData (operate := fun t => opStore t.wX t.y t) rfl, opStore_of_inv h hm s.wX s.y⟩,
    ⟨_, exec_of_onData (operate := fun t => opStore t.wM 0 t) rfl, opStore_of_inv h hm s.wM 0⟩⟩

/-! ### Transfers (R168 to R180) -/

/-- A transfer into `X` (R168, R173, R174). -/
theorem opToX_of_inv {s : State} (h : s.Inv) (v : Word) :
    opToX s v = { s with x := trunc s.wX v, p := withNZ s.p s.wX v } := by
  rw [opToX, setX_setNZ_of_inv h, State.setX_x, narrowIndex_eq_trunc, withNZ_trunc]

/-- A transfer into `Y` (R169, R172). -/
theorem opToY_of_inv {s : State} (h : s.Inv) (v : Word) :
    opToY s v = { s with y := trunc s.wX v, p := withNZ s.p s.wX v } := by
  rw [opToY, setY_setNZ_of_inv h, State.setY_y, narrowIndex_eq_trunc, withNZ_trunc]

/-- A transfer into `A` (R170, R171, R177, R179). -/
theorem opToA_of_inv {s : State} (h : s.Inv) (w : Width) (v : Word) :
    opToA s w v = { s with a := accWith w s.a v, p := withNZ s.p w v } := by
  rw [opToA, setNZ_of_inv (setA_writesOnly s w v h).1, setA_eq, withNZ_accWith]

/-- Settles O39: the transfers into one register are one operation each; a transfer between index registers
copies a value that already has index width. -/
theorem transfersCopyRegisters : Obligations.TransfersCopyRegisters := by
  unfold Obligations.TransfersCopyRegisters
  refine ⟨fun _ => rfl, fun s h => ?tax, fun s h => ?tay, fun s h => ?txa, fun s h => ?tya, fun s h => ?txy,
    fun s h => ?tyx, fun s h => ?tsx, fun _ _ => rfl, fun _ _ => rfl, fun s h => ?tsc, fun s h => ?tcd,
    fun s h => ?tdc, fun s h => ?xba⟩
  case tax => exact congrArg _ (opToX_of_inv h s.a)
  case tay => exact congrArg _ (opToY_of_inv h s.a)
  case txa => exact congrArg _ (opToA_of_inv h s.wM s.x)
  case tya => exact congrArg _ (opToA_of_inv h s.wM s.y)
  case txy =>
    have hx : trunc s.wX s.x = s.x := h.idx_eq
    have hcopy := opToY_of_inv h s.x
    rw [hx] at hcopy
    exact congrArg _ hcopy
  case tyx =>
    have hy : trunc s.wX s.y = s.y := h.idy_eq
    have hcopy := opToX_of_inv h s.y
    rw [hy] at hcopy
    exact congrArg _ hcopy
  case tsx => exact congrArg _ (opToX_of_inv h s.sp)
  case tsc => exact congrArg _ (opToA_of_inv h .w16 s.sp)
  case tcd => exact congrArg _ (setNZ_of_inv (with_d_writesOnly s s.a h).1 .w16 s.a)
  case tdc => exact congrArg _ (opToA_of_inv h .w16 s.d)
  case xba => exact congrArg _ (setNZ_of_inv (with_a_writesOnly s _ h).1 .w8 (zext (hi s.a)))

/-! ### Block moves (R182, R183) -/

/-- Where memory is canonical, one write leaves its byte and no other (R51). -/
theorem stores_byte {s t : State} {a : Addr} {v : Byte} (hmem : Memory.wf s.mem = true)
    (ht : t = s.accessed [.write .data a v]) :
    s.Stores t .w8 a a (zext v) [.write .data a v] := by
  have hbyte : [.write .data a v] = highFirst .w8 a (nextLong a) (zext v) := by simp [highFirst, zext]
  obtain ⟨-, hlow, -, hrest⟩ := stores_highFirst hmem (nextLong_ne a) (hbyte ▸ ht)
  exact ⟨ht, hlow, nofun, hrest⟩

/-- The count of a block move: `A` over 16 bits, the offsets at index width (R182, R183). -/
theorem blockCounted_eq (step : Word → Word) (dst : Byte) (s : State) :
    s.blockCounted step dst = { s with
      dbr := dst, x := trunc s.wX (step s.x), y := trunc s.wX (step s.y), a := s.a - 1 } := by
  rw [← narrowIndex_eq_trunc, ← narrowIndex_eq_trunc]
  rfl

/-- One step of a block move whose offsets go to `step X` and `step Y`: everything else it does, and then its
one write (R182, R183). -/
theorem opBlockMove_stores {s : State} (h : s.Inv) (step : Word → Word) (dst src : Byte) :
    let source := addr src s.x
    let dest := addr dst s.y
    let v := s.answer 0 source
    State.Stores { s.accessed [.read .data source v] with
        mem := s.mem
        a := s.a - 1
        dbr := dst
        pc := if s.a - 1 = 0xFFFF then s.pc else s.pc - 3
        x := trunc s.wX (step s.x)
        y := trunc s.wX (step s.y) }
      (opBlockMove step src dst s) .w8 dest dest (zext v) [.write .data dest v] := by
  refine stores_byte ?canonical ?run
  case canonical => exact h.memoryCanonical
  case run =>
    rw [opBlockMove_eq, State.read8_eq]
    dsimp only
    rw [State.write8_eq, blockCounted_eq]
    by_cases hlast : s.a - 1 = 0xFFFF
    · rw [if_pos hlast]
      exact if_neg (not_not.mpr hlast)
    · rw [if_neg hlast]
      exact if_pos hlast

/-- Settles O40: both are one operation, up or down by one. -/
theorem blockMovesOneByte : Obligations.BlockMovesOneByte := by
  unfold Obligations.BlockMovesOneByte
  refine ⟨fun _ => rfl, fun s dst src h => ⟨⟨_, rfl, ?mvn⟩, ⟨_, rfl, ?mvp⟩⟩⟩
  case mvn => exact opBlockMove_stores h (· + 1) dst src
  case mvp => exact opBlockMove_stores h (· - 1) dst src

end Sys2Proof.Machine
end

section
/-! Shifts and rotates (43_shift_rotate.md R190 to R194): one operation on its operand, the results as numbers, and
the four instructions. -/

namespace Sys2Proof.Machine

/-! ### The flags (R190) -/

/-- Bit `i` of `P` after the bits of a mask were written. -/
theorem getLsbD_withMask (p m : Byte) (b : Bool) (i : Nat) :
    (withMask p m b).getLsbD i = if m.getLsbD i then b else p.getLsbD i := by
  split
  case isTrue h => exact getLsbD_withMask_of_mem h p b
  case isFalse h => exact getLsbD_withMask_of_notMem (Bool.eq_false_iff.mpr h) p b

/-- Writes of flags that share no bit commute. -/
theorem withMask_comm {m n : Byte} (h : m &&& n = 0) (p : Byte) (b c : Bool) :
    withMask (withMask p m b) n c = withMask (withMask p n c) m b := by
  apply BitVec.eq_of_getLsbD_eq
  intro i _
  have hdisjoint : m.getLsbD i = true → n.getLsbD i = false := by
    simpa using congrArg (·.getLsbD i) h
  simp only [getLsbD_withMask]
  cases hm : m.getLsbD i <;> simp [hdisjoint, hm]

/-- `C` is none of the flags `SetNZ` writes (R13). -/
theorem withNZ_withMask_maskC (p : Byte) (c : Bool) (w : Width) (v : Word) :
    withNZ (withMask p maskC c) w v = withMask (withNZ p w v) maskC c := by
  rw [withNZ, withNZ, withMask_comm (m := maskC) (n := maskZ) rfl, withMask_comm (m := maskC) (n := maskN) rfl]

/-! ### The operation (R190) -/

/-- A shift of the accumulator writes its low `w` bits, `N`, `Z` and `C` (R190). -/
theorem opShift_acc_of_inv (result : Width → Word → Bool → Word) (out : Width → Word → Bool) {s : State}
    (h : s.Inv) :
    let r := result s.wM s.acc s.flagC
    opShift result out s .acc = { s with
      a := accWith s.wM s.a r, p := withMask (withNZ s.p s.wM r) maskC (out s.wM s.acc) } := by
  have hC := h.setFlag (m := maskC) rfl rfl (out s.wM s.acc)
  have hrun : opShift result out s .acc =
      ((s.setFlag maskC (out s.wM s.acc)).setA s.wM (result s.wM s.acc s.flagC)).setNZ s.wM
        (result s.wM s.acc s.flagC) := rfl
  rw [hrun, setA_setNZ_of_inv hC, setFlag_of_inv h rfl rfl, withNZ_withMask_maskC]

/-- A shift of memory at its locator: `C`, the store, then `N` and `Z` (R190). -/
theorem opShift_mem_of_inv (result : Width → Word → Bool → Word) (out : Width → Word → Bool) {s : State}
    (h : s.Inv) {m : DataMode} {a0 a1 : Addr} (hm : (s.resolveData m).1 = .mem a0 a1) :
    let v := (s.operand m s.wM).1
    let r := result s.wM v s.flagC
    State.Stores { s.operandRead m s.wM with p := withMask (withNZ s.p s.wM r) maskC (out s.wM v) }
      (opShift result out (s.pointerRead m) (s.resolveData m).1) s.wM a0 a1 r (highFirst s.wM a0 a1 r) := by
  have hread := h.operandRead m s.wM
  have hC := hread.setFlag (m := maskC) rfl rfl (out s.wM (s.operand m s.wM).1)
  refine stores_highFirst ?canonical (resolveData_mem_ne hm) ?run
  case canonical => exact hread.memoryCanonical
  case run =>
    rw [opShift, getValue_pointerRead, hm]
    dsimp only
    rw [State.pointerRead_wM, State.pointerRead_flagC, State.putValueRMW, State.writeMemRMW_eq,
      setNZ_of_inv (accessed_writesOnly _ _ hC).1, setFlag_of_inv hread rfl rfl, ← withNZ_withMask_maskC]
    rfl

/-- An instruction that shifts its operand by `result`, which is `g` on the numbers of the width, and moves `bit`
out. -/
theorem readsModifiesWrites_of_shift {mk : DataMode → Instr} {result : Width → Word → Bool → Word}
    {out : Width → Word → Bool} {g : Nat → Nat → Nat → Nat} {bit : Nat → Nat}
    (hexec : ∀ m s, exec (mk m) s = onData (opShift result out) m s)
    (hresult : ∀ w v c, trunc w v = v → result w v c = BitVec.ofNat 16 (g (bitsOf w) v.toNat c.toNat))
    (hout : ∀ w v, out w v = v.getLsbD (bit (bitsOf w))) :
    ReadsModifiesWrites mk g (some bit) := by
  intro s h
  simp only [← hout]
  refine ⟨?accumulator, fun m a0 a1 hm => ⟨_, exec_of_onData (hexec m s), ?memory⟩⟩
  case accumulator =>
    rw [← hresult _ _ _ (trunc_trunc s.wM s.a)]
    exact (hexec .acc s).trans (congrArg Host.Outcome.next (opShift_acc_of_inv result out h))
  case memory =>
    rw [← hresult _ _ _ (trunc_operand s m s.wM)]
    exact opShift_mem_of_inv result out h hm

/-! ### The results as numbers (R191 to R194) -/

/-- The low `w` bits of a number (R8). -/
theorem trunc_ofNat (w : Width) (n : Nat) :
    trunc w (BitVec.ofNat 16 n) = BitVec.ofNat 16 (n % 2 ^ bitsOf w) := by
  apply BitVec.eq_of_toNat_eq
  rw [trunc_toNat, BitVec.toNat_ofNat, BitVec.toNat_ofNat]
  cases w with
  | w8 => simp only [bitsOf]; omega
  | w16 => rfl

/-- Below bit `i` there is room for another number: the two are joined by their sum. -/
theorem ofNat_or_ofNat_of_lt {i low : Nat} (h : low < 2 ^ i) (high : Nat) :
    BitVec.ofNat 16 (2 ^ i * high) ||| BitVec.ofNat 16 low = BitVec.ofNat 16 (2 ^ i * high + low) := by
  rw [← BitVec.ofNat_or, Nat.two_pow_add_eq_or_of_lt h]

/-- The carry enters the vacated bit 0 (R193). -/
theorem rotateLeft_eq (w : Width) (v : Word) (c : Bool) :
    rotateLeft w v c = BitVec.ofNat 16 ((2 * v.toNat + c.toNat) % 2 ^ bitsOf w) := by
  have hdouble : v <<< 1 = BitVec.ofNat 16 (2 ^ 1 * v.toNat) :=
    BitVec.eq_of_toNat_eq (by simp [Nat.shiftLeft_eq, Nat.mul_comm])
  have hcarry : (if c then 1 else 0 : Word) = BitVec.ofNat 16 c.toNat := by cases c <;> rfl
  rw [rotateLeft, hdouble, hcarry, ofNat_or_ofNat_of_lt c.toNat_lt, trunc_ofNat, Nat.pow_one]

/-- The carry enters the vacated bit `w-1` (R194). -/
theorem rotateRight_eq {w : Width} {v : Word} (hv : trunc w v = v) (c : Bool) :
    rotateRight w v c = BitVec.ofNat 16 (v.toNat / 2 + c.toNat * 2 ^ (bitsOf w - 1)) := by
  have hhalf : v >>> 1 = BitVec.ofNat 16 (v.toNat / 2) :=
    BitVec.eq_of_toNat_eq (by simp [Nat.shiftRight_eq_div_pow]; omega)
  have hcarry : (if c then topBit w else 0) = BitVec.ofNat 16 (2 ^ (bitsOf w - 1) * c.toNat) := by
    cases w <;> cases c <;> rfl
  have hroom : v.toNat / 2 < 2 ^ (bitsOf w - 1) := by
    have hlt := toNat_lt_of_trunc hv
    cases w <;> simp only [bitsOf] at * <;> omega
  rw [rotateRight, hhalf, hcarry, BitVec.or_comm, ofNat_or_ofNat_of_lt hroom, Nat.add_comm, Nat.mul_comm]

/-- A left shift is the left rotate of a clear carry (R191, R193). -/
theorem shiftLeft_eq (w : Width) (v : Word) : shiftLeft w v = BitVec.ofNat 16 (2 * v.toNat % 2 ^ bitsOf w) := by
  have hrotate : shiftLeft w v = rotateLeft w v false := congrArg (trunc w) BitVec.or_zero.symm
  rw [hrotate, rotateLeft_eq, Bool.toNat_false, Nat.add_zero]

/-- A right shift is the right rotate of a clear carry, at any width (R192, R194). -/
theorem shiftRight_eq (v : Word) : shiftRight v = BitVec.ofNat 16 (v.toNat / 2) := by
  have hrotate : shiftRight v = rotateRight .w16 v false := BitVec.or_zero.symm
  rw [hrotate, rotateRight_eq rfl, Bool.toNat_false, Nat.zero_mul, Nat.add_zero]

/-- Settles O41: the four are one operation, whose results are the rotates of the carry or of a clear one. -/
theorem shiftsAndRotates : Obligations.ShiftsAndRotates := by
  unfold Obligations.ShiftsAndRotates
  refine ⟨fun _ => rfl, readsModifiesWrites_of_shift (fun _ _ => rfl) ?asl msb_eq_getLsbD,
    readsModifiesWrites_of_shift (fun _ _ => rfl) ?lsr fun _ _ => rfl,
    readsModifiesWrites_of_shift (fun _ _ => rfl) ?rol msb_eq_getLsbD,
    readsModifiesWrites_of_shift (fun _ _ => rfl) ?ror fun _ _ => rfl⟩
  case asl => exact fun w v _ _ => shiftLeft_eq w v
  case lsr => exact fun _ v _ _ => shiftRight_eq v
  case rol => exact fun w v c _ => rotateLeft_eq w v c
  case ror => exact fun _ _ c hv => rotateRight_eq hv c

end Sys2Proof.Machine
end

section
/-! The stack (44_stack.md R200 to R219): the primitives as the accesses they make, and the instructions that push
and pull. -/

namespace Sys2Proof.Machine

/-! ### The stack pointer (10_state.md R33, R37) -/

theorem State.down_eq (s : State) (n : Word) : s.down n = clampStack s.e (s.sp - n) := rfl

theorem State.up_eq (s : State) (n : Word) : s.up n = clampStack s.e (s.sp + n) := rfl

/-- The low byte of a sum comes from the low bytes (00_scope.md R9). -/
theorem lo_add (v n : Word) : lo (v + n) = lo v + lo n := by
  apply BitVec.eq_of_toNat_eq
  rw [BitVec.toNat_add, lo_toNat, lo_toNat, lo_toNat, BitVec.toNat_add]
  omega

/-- A clamped pointer moves as the pointer before the clamp does. -/
@[simp] theorem clampStack_clampStack_add (e : Bool) (v n : Word) :
    clampStack e (clampStack e v + n) = clampStack e (v + n) := by
  cases e with
  | false => rfl
  | true => simp [clampStack, lo_add]

@[simp] theorem clampStack_clampStack_sub (e : Bool) (v n : Word) :
    clampStack e (clampStack e v - n) = clampStack e (v - n) := by
  rw [BitVec.sub_eq_add_neg, clampStack_clampStack_add, ← BitVec.sub_eq_add_neg]

/-- In emulation mode `S` is in page 1 already (R37). -/
theorem State.Inv.clampStack_sp {s : State} (h : s.Inv) : clampStack s.e s.sp = s.sp := by
  unfold clampStack
  split
  case isTrue he => rw [← h.emulationStack he, word_hi_lo]
  case isFalse => rfl

/-- The two bytes of a word lie at different stack addresses, also where `S` wraps in page 1. -/
theorem State.addr_down_one_ne (s : State) : addr 0x00 (s.down 1) ≠ addr 0x00 s.sp := by
  have hlo : lo (s.down 1) = lo (s.sp - 1) := by
    cases he : s.e <;> simp [State.down_eq, clampStack, he]
  intro h
  have hsp : s.down 1 = s.sp := by simpa using congrArg offsetOf h
  exact lo_ne_lo_add_one (s.sp - 1) (by rw [← hlo, hsp, BitVec.sub_add_cancel])

/-! ### Pushes (R200, R202) -/

/-- A push is one write at `S`, which then moves down (R200). -/
theorem State.push8_eq (s : State) (b : Byte) :
    s.push8 b = { s.accessed [.write .data (addr 0x00 s.sp) b] with sp := s.down 1 } := by
  rw [State.push8_spec, State.write8_eq, State.down_eq]

/-- A push of a word is two writes, high byte first (R202). -/
theorem State.push16_eq (s : State) (v : Word) :
    s.push16 v = { s.accessed (highFirst .w16 (addr 0x00 (s.down 1)) (addr 0x00 s.sp) v) with
      sp := s.down 2 } := by
  have hdown : clampStack s.e (s.down 1 - 1) = s.down 2 := by
    rw [State.down_eq, clampStack_clampStack_sub, BitVec.sub_sub]
    rfl
  have hwrites : s.accessed (highFirst .w16 (addr 0x00 (s.down 1)) (addr 0x00 s.sp) v) =
      (s.accessed [.write .data (addr 0x00 s.sp) (hi v)]).accessed
        [.write .data (addr 0x00 (s.down 1)) (lo v)] := by
    rw [State.accessed_accessed]
    rfl
  rw [State.push16, State.push8_eq, State.push8_eq, hwrites, ← hdown]
  rfl

/-- Where memory is canonical, a push at a width leaves its bytes and no others (R200, R202). -/
theorem pushW_pushes {s : State} (h : s.Inv) (w : Width) (v : Word) : s.Pushes (s.pushW w v) w v := by
  cases w with
  | w8 =>
    obtain ⟨hwhole, hlow, -, hrest⟩ :=
      stores_highFirst (s := { s with sp := s.down 1 }) (w := .w8) (v := v) h.memoryCanonical
        (nextLong_ne (addr 0x00 s.sp)) (s.push8_eq (lo v))
    exact ⟨hwhole, hlow, nofun, hrest⟩
  | w16 =>
    exact stores_highFirst (s := { s with sp := s.down 2 }) h.memoryCanonical s.addr_down_one_ne
      (s.push16_eq v)

theorem push8_pushes {s : State} (h : s.Inv) (b : Byte) : s.Pushes (s.push8 b) .w8 (zext b) := by
  have hpush := pushW_pushes h .w8 (zext b)
  rwa [State.pushW, zext, lo_word] at hpush

theorem push16_pushes {s : State} (h : s.Inv) (v : Word) : s.Pushes (s.push16 v) .w16 v :=
  pushW_pushes h .w16 v

/-! ### Pulls (R201, R203) -/

theorem State.pullReads_succ (s : State) (n : Nat) :
    s.pullReads (n + 1) = s.pullReads n ++
      [.read .data (addr 0x00 (s.up (BitVec.ofNat 16 (n + 1)))) (s.stackByte (n + 1))] := by
  simp [State.pullReads, List.range_succ]

@[simp] theorem State.pullReads_length (s : State) (n : Nat) : (s.pullReads n).length = n := by
  simp [State.pullReads]

theorem State.pullReads_isRead (s : State) (n : Nat) : (s.pullReads n).all Access.isRead = true := by
  simp [State.pullReads, Access.isRead]

/-- A first pull is one read at the new `S` (R201). -/
theorem State.pull8_eq (s : State) : s.pull8 = (s.stackByte 1, s.pulled 1) := by
  rw [State.pull8_spec, State.read8_eq]
  rfl

/-- After `n` pulls, one more is the `n+1`-th (R201). -/
theorem State.pulled_pull8 (s : State) (n : Nat) :
    (s.pulled n).pull8 = (s.stackByte (n + 1), s.pulled (n + 1)) := by
  have hup : (s.pulled n).up 1 = s.up (BitVec.ofNat 16 (n + 1)) := by
    rw [State.up_eq, State.up_eq, BitVec.ofNat_add, ← BitVec.add_assoc]
    exact clampStack_clampStack_add s.e _ 1
  have hbyte : (s.pulled n).stackByte 1 = s.stackByte (n + 1) := by
    calc (s.pulled n).stackByte 1
      _ = (s.accessed (s.pullReads n)).answer 0 (addr 0x00 ((s.pulled n).up 1)) := rfl
      _ = s.stackByte (n + 1) := by
        rw [State.accessed_answer (s.pullReads_isRead n), s.pullReads_length, hup]
        rfl
  have hread : (s.pulled n).pulled 1 = s.pulled (n + 1) := by
    calc (s.pulled n).pulled 1
      _ = { (s.accessed (s.pullReads n)).accessed [.read .data (addr 0x00 ((s.pulled n).up 1))
            ((s.pulled n).stackByte 1)] with sp := (s.pulled n).up 1 } := rfl
      _ = s.pulled (n + 1) := by
        rw [State.accessed_accessed, hbyte, hup, ← State.pullReads_succ]
        rfl
  rw [State.pull8_eq, hbyte, hread]

/-- A pull of a word is two pulls of a byte, low byte first (R203). -/
theorem State.pull16_eq (s : State) : s.pull16 = (word (s.stackByte 2) (s.stackByte 1), s.pulled 2) := by
  rw [State.pull16, s.pull8_eq]
  dsimp only
  rw [s.pulled_pull8 1]

theorem State.pullW_eq (s : State) (w : Width) : s.pullW w = (s.pulledValue w, s.pulled (bytesOf w)) := by
  cases w with
  | w8 => rw [State.pullW, State.pull8_eq]; rfl
  | w16 => exact s.pull16_eq

@[simp] theorem trunc_pulledValue (s : State) (w : Width) : trunc w (s.pulledValue w) = s.pulledValue w := by
  cases w with
  | w8 => exact trunc_zext .w8 _
  | w16 => rfl

/-- Pulls keep the invariants. -/
theorem State.Inv.pulled {s : State} (h : s.Inv) (n : Nat) : (s.pulled n).Inv :=
  ((accessed_writesOnly s (s.pullReads n)).trans (setSP_writesOnly _ (s.sp + BitVec.ofNat 16 n)) h).1

@[simp] theorem State.pulled_wX (s : State) (n : Nat) : (s.pulled n).wX = s.wX := rfl

/-! ### A pull after a push (R203) -/

theorem State.push16_up_one (s : State) (v : Word) : (s.push16 v).up 1 = s.down 1 := by
  have hstep : s.sp - 2 + 1 = s.sp - 1 := by bv_omega
  rw [s.push16_eq v]
  calc clampStack s.e (s.down 2 + 1)
    _ = clampStack s.e (s.sp - 2 + 1) := clampStack_clampStack_add s.e (s.sp - 2) 1
    _ = s.down 1 := by rw [hstep, State.down_eq]

theorem State.Inv.push16_up_two {s : State} (h : s.Inv) (v : Word) : (s.push16 v).up 2 = s.sp := by
  rw [s.push16_eq v]
  calc clampStack s.e (s.down 2 + 2)
    _ = clampStack s.e (s.sp - 2 + 2) := clampStack_clampStack_add s.e (s.sp - 2) 2
    _ = s.sp := by rw [BitVec.sub_add_cancel, h.clampStack_sp]

/-- Where the bus answers from memory, a pull of a word right after its push gives it back (R203). -/
theorem pull16_push16 {s : State} (h : s.Inv) (henv : s.env = []) (v : Word) :
    (s.push16 v).pull16.1 = v ∧ (s.push16 v).pull16.2.sp = s.sp := by
  obtain ⟨-, hlow, hhigh, -⟩ := push16_pushes h v
  have hquiet : (s.push16 v).env = [] := by simp [State.push16, State.push8, henv]
  rw [State.pull16_eq]
  refine ⟨?value, h.push16_up_two v⟩
  case value =>
    have hbyte1 : (s.push16 v).stackByte 1 = lo v := by
      rw [← hlow, ← s.push16_up_one v]
      exact State.answer_of_env_nil hquiet _ _
    have hbyte2 : (s.push16 v).stackByte 2 = hi v := by
      rw [← hhigh rfl, ← h.push16_up_two v]
      exact State.answer_of_env_nil hquiet _ _
    rw [hbyte1, hbyte2, word_hi_lo]

/-- Settles O42: each primitive is the accesses it makes, and the pulls find the pushed bytes where the push left
them. -/
theorem stackPrimitives : Obligations.StackPrimitives := by
  unfold Obligations.StackPrimitives
  exact fun s b v h => ⟨s.push8_eq b, s.push16_eq v, s.pull8_eq, s.pull16_eq, fun henv => pull16_push16 h henv v⟩

/-! ### Instructions that push a register (R204 to R210) -/

/-- Settles O43: each is a push at its width. -/
theorem pushesWriteTheStack : Obligations.PushesWriteTheStack := by
  unfold Obligations.PushesWriteTheStack
  refine ⟨fun _ => rfl, fun s h => ?_⟩
  exact ⟨⟨_, rfl, pushW_pushes h s.wM s.a⟩, ⟨_, rfl, pushW_pushes h s.wX s.x⟩,
    ⟨_, rfl, pushW_pushes h s.wX s.y⟩, ⟨_, rfl, push8_pushes h s.p⟩, ⟨_, rfl, push8_pushes h s.dbr⟩,
    ⟨_, rfl, push16_pushes h s.d⟩, ⟨_, rfl, push8_pushes h s.k⟩⟩

/-! ### Instructions that pull a register (R211 to R216) -/

theorem execPla_of_inv {s : State} (h : s.Inv) :
    execPla s = .next { s.pulled (bytesOf s.wM) with
      a := accWith s.wM s.a (s.pulledValue s.wM), p := withNZ s.p s.wM (s.pulledValue s.wM) } := by
  rw [execPla, State.pullW_eq]
  exact congrArg _ (setA_setNZ_of_inv (h.pulled _) s.wM _)

theorem execPlx_of_inv {s : State} (h : s.Inv) :
    execPlx s = .next { s.pulled (bytesOf s.wX) with
      x := s.pulledValue s.wX, p := withNZ s.p s.wX (s.pulledValue s.wX) } := by
  have hset := setX_setNZ_of_inv (h.pulled (bytesOf s.wX)) (s.pulledValue s.wX) (s.pulledValue s.wX)
  rw [State.pulled_wX, trunc_pulledValue] at hset
  rw [execPlx, State.pullW_eq]
  exact congrArg _ hset

theorem execPly_of_inv {s : State} (h : s.Inv) :
    execPly s = .next { s.pulled (bytesOf s.wX) with
      y := s.pulledValue s.wX, p := withNZ s.p s.wX (s.pulledValue s.wX) } := by
  have hset := setY_setNZ_of_inv (h.pulled (bytesOf s.wX)) (s.pulledValue s.wX) (s.pulledValue s.wX)
  rw [State.pulled_wX, trunc_pulledValue] at hset
  rw [execPly, State.pullW_eq]
  exact congrArg _ hset

theorem execPlp_eq (s : State) : execPlp s = .next ((s.pulled 1).setP (s.stackByte 1)) := by
  rw [execPlp, State.pull8_eq]

theorem execPlb_of_inv {s : State} (h : s.Inv) :
    execPlb s = .next { s.pulled 1 with
      dbr := s.stackByte 1, p := withNZ s.p .w8 (zext (s.stackByte 1)) } := by
  rw [execPlb, State.pull8_eq]
  exact congrArg _ (setNZ_of_inv (with_dbr_writesOnly _ _ (h.pulled 1)).1 .w8 _)

theorem execPld_of_inv {s : State} (h : s.Inv) :
    execPld s = .next { s.pulled 2 with
      d := s.pulledValue .w16, p := withNZ s.p .w16 (s.pulledValue .w16) } := by
  rw [execPld, State.pull16_eq]
  exact congrArg _ (setNZ_of_inv (with_d_writesOnly _ _ (h.pulled 2)).1 .w16 _)

/-- Settles O44: each is a setter on the pulled value; `PLP` is the setter of `P` itself. -/
theorem pullsReadTheStack : Obligations.PullsReadTheStack := by
  unfold Obligations.PullsReadTheStack
  exact ⟨fun _ => rfl, fun _ h => execPla_of_inv h, fun _ h => execPlx_of_inv h, fun _ h => execPly_of_inv h,
    fun s _ => execPlp_eq s, fun _ h => execPlb_of_inv h, fun _ h => execPld_of_inv h⟩

/-! ### Instructions that push an address (R217 to R219) -/

/-- `PEI` reads its word without the page wrap (R120, R218; 92_eei_decisions.md D6). -/
theorem State.resolvePei_eq (s : State) (d : Byte) :
    s.resolvePei d = (.mem (addr 0x00 (s.d + zext d)) (addr 0x00 (s.d + zext d + 1)), s) := by
  rw [State.resolvePei, State.dpOperand, Config.dpQuirkPei, BitVec.add_assoc]
  rfl

/-- `PEI` reads two bytes, low byte first, and pushes them (R218). -/
theorem execPei_eq (s : State) (d : Byte) :
    let p0 := addr 0x00 (s.d + zext d)
    let p1 := addr 0x00 (s.d + zext d + 1)
    execPei d s = .next ((s.accessed [.read .data p0 (s.answer 0 p0), .read .data p1 (s.answer 1 p1)]).push16
      (word (s.answer 1 p1) (s.answer 0 p0))) := by
  intro p0 p1
  rw [execPei, onData, State.resolveData, State.resolvePei_eq, opPushValue, State.getValue, State.readMem_w16]

/-- Settles O45: each is a push of a word, from the state after the reads of `PEI`. -/
theorem pushEffectiveAddress : Obligations.PushEffectiveAddress := by
  unfold Obligations.PushEffectiveAddress
  refine ⟨fun _ => rfl, fun s a b h => ⟨⟨_, rfl, push16_pushes h a⟩, ?pei, ⟨_, rfl, push16_pushes h _⟩⟩⟩
  case pei => exact ⟨_, execPei_eq s b, push16_pushes (accessed_writesOnly s _ h).1 _⟩

end Sys2Proof.Machine
end

section
/-! Mode switches, single-flag instructions, and the boundary that takes an asserted line (45_mode_switch.md R220 to
R229; 60_exceptions.md R284). -/

namespace Sys2Proof.Machine

/-! ### `XCE` (R222) -/

/-- Leaving emulation mode, or staying out of it, writes `E` alone (R35). -/
theorem setE_false (s : State) : s.setE false = { s with e := false } := rfl

/-- Settles O47: the write of `C` is a flag write under the invariants, and the old `C` says which side of `SetE`
runs. -/
theorem xceExchanges : Obligations.XceExchanges := by
  unfold Obligations.XceExchanges
  refine ⟨fun _ => rfl, fun s h => ?_⟩
  have hrun : exec .xce s = .next ((s.setFlag maskC s.e).setE s.flagC) := rfl
  have hcarry : s.setFlag maskC s.e = { s with p := withMask s.p maskC s.e } := setFlag_of_inv h rfl rfl s.e
  rw [hrun, hcarry]
  dsimp only
  split
  case isTrue hC => rw [hC, setE_true]; rfl
  case isFalse hC => rw [Bool.eq_false_iff.mpr hC, setE_false]

/-! ### The interrupt check at the boundary of a running instruction (R72, R284) -/

/-- An instruction that leaves the core running has no wake at its boundary. -/
theorem State.boundary_of_running (s : State) (i : Instr) (hrun : s.run = .running) :
    s.boundary i = (s.spendIdle i).interruptCheck := by
  simp [State.boundary_eq, hrun]

/-- An asserted line that `P.I` does not mask is taken. -/
theorem State.interruptCheck_of_irq {s : State} (hnmi : s.nmiPending = false) (hirq : s.irqLines ≠ 0)
    (hI : s.flagI = false) : s.interruptCheck = s.enter .hardware (irqVector s.e) := by
  simp [State.interruptCheck, State.irqRequested, hnmi, hirq, hI]

/-- With `P.I` set and no NMI pending nothing is taken. -/
theorem State.interruptCheck_of_masked {s : State} (hnmi : s.nmiPending = false) (hI : s.flagI = true) :
    s.interruptCheck = s := by
  simp [State.interruptCheck, hnmi, hI]

/-- `P.I` after a write of it: the setter forces only `M` and `X` (R34). -/
theorem State.setFlag_maskI_flagI (s : State) (b : Bool) : (s.setFlag maskI b).flagI = b := by
  have hforce : (s.setFlag maskI b).flagI = (withMask s.p maskI b).getLsbD 2 :=
    forceMX_getLsbD (f := .i) s.e _ nofun nofun
  rw [hforce, getLsbD_withMask_of_mem rfl]

/-! ### Single-flag instructions (R223 to R229) -/

/-- Settles O48: each is one flag write under the invariants; `CLI` and `SEI` have written `P.I` when their own
boundary looks at it. -/
theorem singleFlagInstructions : Obligations.SingleFlagInstructions := by
  unfold Obligations.SingleFlagInstructions
  refine ⟨fun _ => rfl, fun s h => ?clc, fun s h => ?cld, fun s h => ?cli, fun s h => ?clv, fun s h => ?sec,
    fun s h => ?sed, fun s h => ?sei, fun s t _ hrun hnmi hirq => ⟨fun hexec => ?takes, fun hexec => ?masks⟩⟩
  case clc => exact congrArg _ (setFlag_of_inv h (m := maskC) rfl rfl false)
  case cld => exact congrArg _ (setFlag_of_inv h (m := maskD) rfl rfl false)
  case cli => exact congrArg _ (setFlag_of_inv h (m := maskI) rfl rfl false)
  case clv => exact congrArg _ (setFlag_of_inv h (m := maskV) rfl rfl false)
  case sec => exact congrArg _ (setFlag_of_inv h (m := maskC) rfl rfl true)
  case sed => exact congrArg _ (setFlag_of_inv h (m := maskD) rfl rfl true)
  case sei => exact congrArg _ (setFlag_of_inv h (m := maskI) rfl rfl true)
  case takes =>
    obtain rfl : s.setFlag maskI false = t := Host.Outcome.next.inj hexec
    rw [(s.setFlag maskI false).boundary_of_running .cli hrun]
    exact State.interruptCheck_of_irq hnmi hirq (s.setFlag_maskI_flagI false)
  case masks =>
    obtain rfl : s.setFlag maskI true = t := Host.Outcome.next.inj hexec
    rw [(s.setFlag maskI true).boundary_of_running .sei hrun]
    exact State.interruptCheck_of_masked hnmi (s.setFlag_maskI_flagI true)

/-! ### `REP` and `SEP` (R220, R221) -/

/-- Settles O46: both are the setter of `P`, which forces `M` and `X` and truncates the index registers (R34). -/
theorem repAndSep : Obligations.RepAndSep := by
  unfold Obligations.RepAndSep
  exact ⟨fun _ => rfl, fun _ => ⟨fun _ _ => rfl, fun _ _ => rfl⟩⟩

end Sys2Proof.Machine
end

section
/-! Branches and jumps (46_control_transfer.md R240 to R252): a target, and then `PC` alone or with its bank. -/

namespace Sys2Proof.Machine

/-! ### Branches (R240 to R250) -/

/-- A branch is a choice of `PC` (R240). -/
theorem opBranch_eq (taken : Bool) (r : Byte) (s : State) :
    opBranch taken r s = { s with pc := if taken then s.resolveRel8 r else s.pc } := by
  cases taken <;> rfl

/-- Settles O49: each branch is one choice of `PC`, by its flag, with the displacement sign-extended. -/
theorem branchesMoveOnlyPC : Obligations.BranchesMoveOnlyPC := by
  unfold Obligations.BranchesMoveOnlyPC
  refine ⟨fun _ => rfl, fun s r rl => ?_⟩
  intro d go
  have branch {flag taken : Bool} (h : flag = taken) :
      Host.Outcome.next (φ := Fault) (ρ := Refusal) (opBranch flag r s) = .next (go taken) := by
    rw [h, opBranch_eq, State.resolveRel8, sext_eq]
    rfl
  have ofClear (flag : Bool) : (!flag) = decide (flag = false) := Bool.decide_eq_false.symm
  have ofSet (flag : Bool) : flag = decide (flag = true) := Bool.decide_eq_true.symm
  exact ⟨branch (ofClear _), branch (ofSet _), branch (ofSet _), branch (ofClear _), branch (ofSet _),
    branch (ofClear _), branch (ofClear _), branch (ofSet _), branch rfl, rfl⟩

/-! ### Jumps (R251, R252) -/

/-- A 24-bit pointer is a bank and an offset. -/
theorem State.jumpLong_long (s : State) (b2 b1 b0 : Byte) :
    s.jumpLong (long b2 b1 b0) = { s with k := b2, pc := word b1 b0 } := by
  rw [State.jumpLong, long, bankOf_addr, offsetOf_addr]

/-- Settles O50: each jump goes to the target that its mode resolves to, from the state after the pointer was
read. -/
theorem jumpsGoToTheirTarget : Obligations.JumpsGoToTheirTarget := by
  unfold Obligations.JumpsGoToTheirTarget
  refine ⟨fun _ => rfl, fun s a al => ?_⟩
  intro via p0 p1 p2
  have near (m : NearMode) : exec (.jmp m) s = .next ((s.resolveNear m).2.jump (s.resolveNear m).1) := rfl
  have far (m : FarMode) : exec (.jml m) s = .next ((s.resolveFar m).2.jumpLong (s.resolveFar m).1) := rfl
  refine ⟨rfl, ?absind, ?absindx, rfl, ?absindl⟩
  case absind => rw [near, State.resolveNear, State.resolveAbsind, State.read16_eq]; rfl
  case absindx => rw [near, State.resolveNear, State.resolveAbsindx, State.read16_eq]; rfl
  case absindl => rw [far, State.resolveFar, State.resolveAbsindl, State.read24_eq, State.jumpLong_long]; rfl

end Sys2Proof.Machine
end

section
/-! Bytes pushed one after another (44_stack.md R200 to R203): where they lie, what they leave as it was, and what
pulls find of them. -/

namespace Sys2Proof.Machine

/-! ### Stack addresses -/

/-- The stack address `n` bytes down, in bank 0 (R200). -/
def State.slot (s : State) (n : Nat) : Addr := addr 0x00 (s.down (BitVec.ofNat 16 n))

theorem State.lo_down (s : State) (n : Word) : lo (s.down n) = lo (s.sp - n) := by
  cases he : s.e <;> simp [State.down_eq, clampStack, he]

/-- The top of the stack is `S`, which the invariant keeps in page 1 in emulation mode (R37). -/
theorem State.Inv.down_zero {s : State} (h : s.Inv) : s.down 0 = s.sp := by
  calc clampStack s.e (s.sp - 0)
    _ = clampStack s.e s.sp := by rw [BitVec.ofNat_eq_ofNat, BitVec.sub_zero]
    _ = s.sp := h.clampStack_sp

theorem State.Inv.slot_zero {s : State} (h : s.Inv) : s.slot 0 = addr 0x00 s.sp :=
  congrArg (addr 0x00) h.down_zero

/-- The first 256 stack addresses differ, also where `S` wraps in page 1. -/
theorem State.slot_injective (s : State) {i j : Nat} (hi : i < 256) (hj : j < 256)
    (h : s.slot i = s.slot j) : i = j := by
  have hdown : s.down (BitVec.ofNat 16 i) = s.down (BitVec.ofNat 16 j) := by
    simpa [State.slot] using congrArg offsetOf h
  have hlo := congrArg (fun v => (lo v).toNat) hdown
  simp only [State.lo_down, lo_toNat, BitVec.toNat_sub, BitVec.toNat_ofNat] at hlo
  omega

/-! ### Pushes of several bytes -/

/-- The writes of pushes of the bytes `l`, first one first (R200). -/
def State.pushWrites (s : State) (l : List Byte) : List Access :=
  l.mapIdx fun j b => .write .data (s.slot j) b

/-- `s` after pushes of the bytes `l`: `S` is as many bytes down, and the bytes were written (R200). -/
def State.pushed (s : State) (l : List Byte) : State :=
  { s.accessed (s.pushWrites l) with sp := s.down (BitVec.ofNat 16 l.length) }

theorem State.Inv.pushed_nil {s : State} (h : s.Inv) : s.pushed [] = s := by
  calc s.pushed []
    _ = { s.accessed [] with sp := s.down 0 } := rfl
    _ = s := by rw [State.accessed_nil, h.down_zero]

theorem State.pushWrites_concat (s : State) (l : List Byte) (b : Byte) :
    s.pushWrites (l ++ [b]) = s.pushWrites l ++ [.write .data (s.slot l.length) b] :=
  List.mapIdx_concat

/-- After pushes of `l`, one more is a push of one more byte (R200). -/
theorem State.pushed_push8 (s : State) (l : List Byte) (b : Byte) : (s.pushed l).push8 b = s.pushed (l ++ [b]) := by
  have hdown : (s.pushed l).down 1 = s.down (BitVec.ofNat 16 (l ++ [b]).length) := by
    rw [List.length_append, State.down_eq, State.down_eq, BitVec.ofNat_add, ← BitVec.sub_sub]
    exact clampStack_clampStack_sub s.e _ 1
  calc (s.pushed l).push8 b
    _ = { (s.accessed (s.pushWrites l)).accessed [.write .data (s.slot l.length) b] with
          sp := (s.pushed l).down 1 } := (s.pushed l).push8_eq b
    _ = s.pushed (l ++ [b]) := by
      rw [State.accessed_accessed, ← State.pushWrites_concat, hdown]
      rfl

theorem State.pushed_push16 (s : State) (l : List Byte) (v : Word) :
    (s.pushed l).push16 v = s.pushed (l ++ [hi v, lo v]) := by
  rw [State.push16, State.pushed_push8, State.pushed_push8, List.append_assoc]
  rfl

theorem State.Inv.pushed {s : State} (h : s.Inv) (l : List Byte) : (s.pushed l).Inv :=
  ((accessed_writesOnly s (s.pushWrites l)).trans (setSP_writesOnly _ (s.sp - BitVec.ofNat 16 l.length)) h).1

theorem State.Inv.push8_eq_pushed {s : State} (h : s.Inv) (b : Byte) : s.push8 b = s.pushed [b] := by
  have hpush := s.pushed_push8 [] b
  rwa [h.pushed_nil] at hpush

theorem State.Inv.push16_eq_pushed {s : State} (h : s.Inv) (v : Word) : s.push16 v = s.pushed [hi v, lo v] := by
  have hpush := s.pushed_push16 [] v
  rwa [h.pushed_nil] at hpush

/-- One more pushed byte changes the byte of memory at its address and no other (R51). -/
theorem State.Inv.read_pushed_concat {s : State} (h : s.Inv) (l : List Byte) (b : Byte) (n : Nat) :
    Memory.read (s.pushed (l ++ [b])).mem n =
      if n = (s.slot l.length).toNat then b else Memory.read (s.pushed l).mem n := by
  have hcanonical : Memory.wf (s.accessed (s.pushWrites l)).mem = true := writesOf_wf _ h.memoryCanonical
  calc Memory.read (s.pushed (l ++ [b])).mem n
    _ = Memory.read ((s.accessed (s.pushWrites l)).accessed [.write .data (s.slot l.length) b]).mem n := by
      rw [State.accessed_accessed, ← State.pushWrites_concat]
      rfl
    _ = _ := Memory.read_write hcanonical _ b n

/-- Up to 256 pushed bytes all lie in memory, each where its push wrote it. -/
theorem State.Inv.read_pushed {s : State} (h : s.Inv) {l : List Byte} (hl : l.length ≤ 256) {i : Nat}
    (hlt : i < l.length) : Memory.read (s.pushed l).mem (s.slot i).toNat = l[i] := by
  induction l using List.reverseRecOn with
  | nil => exact absurd hlt (Nat.not_lt_zero i)
  | append_singleton l b ih =>
    rw [List.length_append, List.length_singleton] at hl hlt
    rw [h.read_pushed_concat]
    by_cases hlast : i = l.length
    · subst hlast
      simp
    · have hslot : (s.slot i).toNat ≠ (s.slot l.length).toNat := fun heq =>
        hlast (s.slot_injective (by omega) (by omega) (BitVec.eq_of_toNat_eq heq))
      rw [if_neg hslot, ih (by omega) (by omega), List.getElem_append_left]

/-- Pushes leave every byte of memory outside their stack addresses (R200). -/
theorem State.Inv.sameOutside_pushed {s : State} (h : s.Inv) (l : List Byte) :
    s.SameOutside (s.pushed l) ((List.range l.length).map s.slot) := by
  induction l using List.reverseRecOn with
  | nil => exact fun n _ => rfl
  | append_singleton l b ih =>
    intro n hn
    rw [List.length_append, List.length_singleton, List.range_succ, List.map_append, List.map_append,
      List.mem_append, not_or] at hn
    obtain ⟨hearlier, hlast⟩ := hn
    rw [h.read_pushed_concat, if_neg (by simpa using hlast), ih n hearlier]

/-! ### Pulls after pushes (R203) -/

/-- In `t` the bytes `l` are the top of the stack, as pushes from `s` left them, and the bus answers from
memory. -/
structure State.OnStack (s t : State) (l : List Byte) : Prop where
  pointer : t.sp = (s.pushed l).sp
  mode : t.e = s.e
  memory : t.mem = (s.pushed l).mem
  quiet : t.env = []

theorem pushed_quiet {s : State} (henv : s.env = []) (l : List Byte) : (s.pushed l).env = [] := by
  simp [State.pushed, State.accessed, henv]

/-- On the way up the stack addresses are those of the way down. -/
theorem State.OnStack.up {s t : State} {l : List Byte} (ht : s.OnStack t l) {n m : Nat} (hn : n + m = l.length) :
    t.up (BitVec.ofNat 16 n) = s.down (BitVec.ofNat 16 m) := by
  have hsp : t.sp = clampStack s.e (s.sp - BitVec.ofNat 16 l.length) := ht.pointer
  have hmove : s.sp - BitVec.ofNat 16 l.length + BitVec.ofNat 16 n = s.sp - BitVec.ofNat 16 m := by
    rw [← hn, BitVec.ofNat_add]
    ring
  rw [State.up_eq, State.down_eq, ht.mode, hsp, clampStack_clampStack_add, hmove]

/-- Pulls of all the bytes give `S` back. -/
theorem State.OnStack.up_length {s t : State} {l : List Byte} (ht : s.OnStack t l) (h : s.Inv) :
    t.up (BitVec.ofNat 16 l.length) = s.sp := by
  rw [ht.up (m := 0) rfl]
  exact h.down_zero

/-- Pulls find the pushed bytes, last one first. -/
theorem State.OnStack.stackByte {s t : State} {l : List Byte} (ht : s.OnStack t l) (h : s.Inv)
    (hl : l.length ≤ 256) {n : Nat} (hn : n < l.length) : t.stackByte (n + 1) = l[l.length - 1 - n] := by
  have haddr : addr 0x00 (t.up (BitVec.ofNat 16 (n + 1))) = s.slot (l.length - 1 - n) :=
    congrArg (addr 0x00) (ht.up (by omega))
  rw [State.stackByte, State.answer_of_env_nil ht.quiet, haddr, ht.memory, h.read_pushed hl]

end Sys2Proof.Machine
end

section
/-! Calls and returns (46_control_transfer.md R253 to R257): what the calls push, what the returns pull, and that each
return undoes its call. -/

namespace Sys2Proof.Machine

/-! ### Calls (R253, R254) -/

/-- What `JSR` pushes: the address of its own last byte, high byte first (R253). -/
def State.nearReturn (s : State) : List Byte := [hi (s.pc - 1), lo (s.pc - 1)]

/-- What `JSL` pushes: `K` before that address (R254). -/
def State.farReturn (s : State) : List Byte := s.k :: s.nearReturn

theorem State.Inv.opJsr_eq {s : State} (h : s.Inv) (a : Word) : opJsr s a = (s.pushed s.nearReturn).jump a := by
  rw [opJsr, h.push16_eq_pushed]
  rfl

theorem State.Inv.opJsl_eq {s : State} (h : s.Inv) (al : Addr) :
    opJsl s al = (s.pushed s.farReturn).jumpLong al := by
  rw [opJsl, h.push8_eq_pushed, State.pushed_push16]
  rfl

/-- A push does not look at `PC`. -/
theorem State.jump_push8 (s : State) (t : Word) (b : Byte) : (s.jump t).push8 b = (s.push8 b).jump t := rfl

theorem State.jump_push16 (s : State) (t v : Word) : (s.jump t).push16 v = (s.push16 v).jump t := by
  rw [State.push16, State.jump_push8, State.jump_push8, State.push16]

/-- `JSR` as the push of the return address from the state that holds the target already. -/
theorem opJsr_pushes {s : State} (h : s.Inv) (a : Word) : (s.jump a).Pushes (opJsr s a) .w16 (s.pc - 1) := by
  rw [opJsr, ← State.jump_push16]
  exact push16_pushes (jump_writesOnly s a h).1 _

/-- Settles O51: `JSR` is a push of a word from the state after its pointer was read; `JSL` is three pushes. -/
theorem callsPushReturnAddress : Obligations.CallsPushReturnAddress := by
  unfold Obligations.CallsPushReturnAddress
  refine ⟨fun _ => rfl, fun s a al h => ⟨⟨_, rfl, opJsr_pushes h a⟩, fun m => ⟨_, rfl, ?jsr⟩, ?pointer, ?jsl⟩⟩
  case jsr =>
    obtain ⟨hinv, hsame⟩ := resolveNear_writesOnly s m h
    have hpc : (s.resolveNear m).2.pc = s.pc := hsame .pc nofun
    rw [← hpc]
    exact opJsr_pushes hinv _
  case pointer => exact s.read16_eq _ _
  case jsl =>
    intro a0 a1 a2
    have htop : a0 = s.slot 0 := h.slot_zero.symm
    have byte (i : Fin 3) := h.read_pushed (l := s.farReturn) (by decide : 3 ≤ 256) i.isLt
    refine ⟨opJsl s al, rfl, ?_⟩
    rw [htop, h.opJsl_eq]
    exact ⟨rfl, byte 0, byte 1, byte 2, h.sameOutside_pushed s.farReturn⟩

/-! ### Returns (R255 to R257) -/

theorem execRts_eq (s : State) :
    execRts s = .next { s.pulled 2 with pc := word (s.stackByte 2) (s.stackByte 1) + 1 } := by
  rw [execRts, State.pull16_eq]
  rfl

theorem execRtl_eq (s : State) :
    execRtl s = .next { s.pulled 3 with
      k := s.stackByte 3, pc := word (s.stackByte 2) (s.stackByte 1) + 1 } := by
  rw [execRtl, State.pull16_eq]
  dsimp only
  rw [s.pulled_pull8 2]

/-- A pull looks neither at `P` nor at `PC`. -/
theorem State.setP_pull8 (s : State) (v : Byte) : (s.setP v).pull8 = (s.pull8.1, s.pull8.2.setP v) := rfl

theorem State.jump_pull8 (s : State) (t : Word) : (s.jump t).pull8 = (s.pull8.1, s.pull8.2.jump t) := rfl

/-- A return from interrupt: `P` through its setter, then `PC`, then `K` in native mode only (R257). -/
theorem State.returnFromInterrupt_eq (s : State) :
    s.returnFromInterrupt = if s.e
      then ((s.pulled 3).setP (s.stackByte 1)).jump (word (s.stackByte 3) (s.stackByte 2))
      else { ((s.pulled 4).setP (s.stackByte 1)).jump (word (s.stackByte 3) (s.stackByte 2)) with
        k := s.stackByte 4 } := by
  have hcounter : ((s.pulled 1).setP (s.stackByte 1)).pull16 =
      (word (s.stackByte 3) (s.stackByte 2), (s.pulled 3).setP (s.stackByte 1)) := by
    rw [State.pull16, State.setP_pull8, s.pulled_pull8 1]
    dsimp only
    rw [State.setP_pull8, s.pulled_pull8 2]
  have hbank : (((s.pulled 3).setP (s.stackByte 1)).jump (word (s.stackByte 3) (s.stackByte 2))).pull8 =
      (s.stackByte 4, ((s.pulled 4).setP (s.stackByte 1)).jump (word (s.stackByte 3) (s.stackByte 2))) := by
    rw [State.jump_pull8, State.setP_pull8, s.pulled_pull8 3]
  have hrun : s.returnFromInterrupt =
      let t := (s.pull8.2.setP s.pull8.1).pull16.2.jump (s.pull8.2.setP s.pull8.1).pull16.1
      if t.e then t else { t.pull8.2 with k := t.pull8.1 } := rfl
  rw [hrun, State.pull8_eq]
  dsimp only
  rw [hcounter, hbank]
  rfl

/-- Settles O52: the pulls of each return, and the setter of `P` in `RTI`. -/
theorem returnsPull : Obligations.ReturnsPull := by
  unfold Obligations.ReturnsPull
  refine ⟨fun _ => rfl, fun s _ => execRts_eq s, fun s _ => execRtl_eq s, fun s _ => ?rti⟩
  case rti =>
    have hrun : exec .rti s = .next s.returnFromInterrupt := rfl
    have hset (n : Nat) (v : Byte) : (s.pulled n).setP v = { s.pulled n with
        p := forceMX s.e v
        x := narrowIndex (forceMX s.e v) s.x
        y := narrowIndex (forceMX s.e v) s.y } := rfl
    beta_reduce
    rw [hrun, State.returnFromInterrupt_eq, hset, hset]
    cases s.e <;> rfl

/-! ### A return right after its call (R253 to R256) -/

/-- `RTS` where the top of the stack is the address that `JSR` pushed in `s`. -/
theorem State.OnStack.execRts {s t : State} (ht : s.OnStack t s.nearReturn) (h : s.Inv) :
    execRts t = .next { t.pulled 2 with pc := s.pc, sp := s.sp } := by
  have byte (i : Fin 2) := ht.stackByte h (by decide : 2 ≤ 256) i.isLt
  obtain ⟨hlo, hhi⟩ : t.stackByte 1 = lo (s.pc - 1) ∧ t.stackByte 2 = hi (s.pc - 1) := ⟨byte 0, byte 1⟩
  have htop : t.up 2 = s.sp := ht.up_length h
  rw [execRts_eq, hlo, hhi, word_hi_lo, BitVec.sub_add_cancel, ← htop]
  rfl

/-- `RTL` where the top of the stack is what `JSL` pushed in `s`. -/
theorem State.OnStack.execRtl {s t : State} (ht : s.OnStack t s.farReturn) (h : s.Inv) :
    execRtl t = .next { t.pulled 3 with k := s.k, pc := s.pc, sp := s.sp } := by
  have byte (i : Fin 3) := ht.stackByte h (by decide : 3 ≤ 256) i.isLt
  obtain ⟨hlo, hhi, hk⟩ : t.stackByte 1 = lo (s.pc - 1) ∧ t.stackByte 2 = hi (s.pc - 1) ∧ t.stackByte 3 = s.k :=
    ⟨byte 0, byte 1, byte 2⟩
  have htop : t.up 3 = s.sp := ht.up_length h
  rw [execRtl_eq, hlo, hhi, hk, word_hi_lo, BitVec.sub_add_cancel, ← htop]
  rfl

/-- Where the bus answers from memory, `RTS` undoes `JSR` but for memory, the cycle count and the record. -/
theorem State.Inv.execRts_opJsr {s : State} (h : s.Inv) (henv : s.env = []) (a : Word) :
    ∃ u, execRts (opJsr s a) = .next u ∧ u.pc = s.pc ∧ u.sp = s.sp ∧ u.k = s.k ∧ u.p = s.p := by
  have hstack : s.OnStack ((s.pushed s.nearReturn).jump a) s.nearReturn := ⟨rfl, rfl, rfl, pushed_quiet henv _⟩
  rw [h.opJsr_eq]
  exact ⟨_, hstack.execRts h, rfl, rfl, rfl, rfl⟩

theorem State.Inv.execRtl_opJsl {s : State} (h : s.Inv) (henv : s.env = []) (al : Addr) :
    ∃ u, execRtl (opJsl s al) = .next u ∧ u.pc = s.pc ∧ u.sp = s.sp ∧ u.k = s.k ∧ u.p = s.p := by
  have hstack : s.OnStack ((s.pushed s.farReturn).jumpLong al) s.farReturn := ⟨rfl, rfl, rfl, pushed_quiet henv _⟩
  rw [h.opJsl_eq]
  exact ⟨_, hstack.execRtl h, rfl, rfl, rfl, rfl⟩

/-- Settles O53: the return finds on the stack what the call pushed, with `S` where it was before. -/
theorem returnUndoesCall : Obligations.ReturnUndoesCall := by
  unfold Obligations.ReturnUndoesCall
  refine fun s m al h henv => ⟨?jsr, ?jsl⟩
  case jsr =>
    obtain ⟨l, hs', -, -⟩ := resolveNear_readsData s m
    obtain ⟨hinv, hsame⟩ := resolveNear_writesOnly s m h
    have hquiet : (s.resolveNear m).2.env = [] := by simp [hs', State.accessed, henv]
    have hstatus : (s.resolveNear m).2.p = s.p := (congrArg State.p hs').trans rfl
    obtain ⟨u, hrts, hpc, hsp, hk, hp⟩ := hinv.execRts_opJsr hquiet (s.resolveNear m).1
    exact ⟨_, u, rfl, hrts, hpc.trans (hsame .pc nofun), hsp.trans (hsame .sp nofun), hk.trans (hsame .k nofun),
      hp.trans hstatus⟩
  case jsl => exact ⟨opJsl s al, (h.execRtl_opJsl henv al).imp fun _ hu => ⟨rfl, hu⟩⟩

end Sys2Proof.Machine
end

section
/-! Interrupt entry, and the return that undoes it (46_control_transfer.md R257; 60_exceptions.md R286, R289). -/

namespace Sys2Proof.Machine

/-! ### Entry (R286) -/

/-- What an entry pushes: `K` in native mode only, then `PC`, then `P` (R286). -/
def State.entryFrame (s : State) : List Byte :=
  if s.e then [hi s.pc, lo s.pc, s.p] else [s.k, hi s.pc, lo s.pc, s.p]

/-- The state whose vector an entry reads: its frame is pushed, its flags are written and `K` is 0 (R286). -/
def State.entered (s : State) : State :=
  { s.pushed s.entryFrame with p := (s.p ||| maskI) &&& ~~~maskD, k := 0x00 }

/-- The `P` an entry pushes is as held (R286; 92_eei_decisions.md D9). -/
theorem State.pushedP_eq (s : State) (cause : EntryCause) : s.pushedP cause = s.p := rfl

/-- The pushes of an entry, in order (R286). -/
theorem State.Inv.pushed_entryFrame {s : State} (h : s.Inv) (cause : EntryCause) :
    (s.pushBank.push16 s.pc).push8 (s.pushedP cause) = s.pushed s.entryFrame := by
  rw [State.pushedP_eq, State.pushBank, State.entryFrame]
  split
  case isTrue => rw [h.push16_eq_pushed, State.pushed_push8]; rfl
  case isFalse => rw [h.push8_eq_pushed, State.pushed_push16, State.pushed_push8]; rfl

/-- An entry: its frame pushed, and then its vector read, low byte first (R286). -/
theorem State.Inv.enter_eq {s : State} (h : s.Inv) (cause : EntryCause) (v : Word) :
    s.enter cause v =
      { (s.entered.read16 (addr 0x00 v) (addr 0x00 (v + 1))).2 with
        pc := (s.entered.read16 (addr 0x00 v) (addr 0x00 (v + 1))).1 } := by
  have hflags : (s.pushed s.entryFrame).setP ((s.p ||| maskI) &&& ~~~maskD) =
      { s.pushed s.entryFrame with p := (s.p ||| maskI) &&& ~~~maskD } :=
    setP_of_inv (h.pushed _) (enter_p_agrees s.p (f := .x) (by simp)) (enter_p_agrees s.p (f := .m) (by simp))
  have hentered : { (s.pushed s.entryFrame).setP ((s.p ||| maskI) &&& ~~~maskD) with k := 0x00 } = s.entered := by
    rw [hflags]
    rfl
  rw [← hentered, State.enter, h.pushed_entryFrame]
  rfl

/-! ### A return right after an entry (R257, R289) -/

/-- Where no script drives the bus, accesses move memory, the cycle count and the record only. -/
theorem accessed_of_env_nil {s : State} (henv : s.env = []) (l : List Access) :
    s.accessed l = { s with
      mem := (s.accessed l).mem, cycles := (s.accessed l).cycles, trace := (s.accessed l).trace } := by
  simp [State.accessed, firstCalls, henv]

theorem pulled_of_env_nil {s : State} (henv : s.env = []) (n : Nat) :
    s.pulled n = { s with
      sp := s.up (BitVec.ofNat 16 n), cycles := (s.pulled n).cycles, trace := (s.pulled n).trace } := by
  have hmem : (s.accessed (s.pullReads n)).mem = s.mem := writesOf_reads (s.pullReads_isRead n) s.mem
  rw [State.pulled, accessed_of_env_nil henv, hmem]

/-- Where no script drives the bus, the registers that an entry leaves as they were. -/
theorem State.Inv.enter_of_env_nil {s : State} (h : s.Inv) (henv : s.env = []) (cause : EntryCause) (v : Word) :
    s.enter cause v = { s with
      sp := (s.enter cause v).sp
      p := (s.enter cause v).p
      k := 0x00
      pc := (s.enter cause v).pc
      mem := (s.enter cause v).mem
      cycles := (s.enter cause v).cycles
      trace := (s.enter cause v).trace } := by
  have hquiet : s.entered.env = [] := pushed_quiet henv _
  rw [h.enter_eq, State.read16_eq, accessed_of_env_nil hquiet, State.entered, State.pushed, accessed_of_env_nil henv]

theorem State.Inv.enter_onStack {s : State} (h : s.Inv) (henv : s.env = []) (cause : EntryCause) (v : Word) :
    s.OnStack (s.enter cause v) s.entryFrame := by
  have hquiet : s.entered.env = [] := pushed_quiet henv _
  rw [h.enter_eq, State.read16_eq, accessed_of_env_nil hquiet]
  exact ⟨rfl, rfl, rfl, hquiet⟩

/-- `RTI` where the top of the stack is what an entry pushed in `s`: everything it saved is back (R257). -/
theorem State.OnStack.returnFromInterrupt {s t : State} (ht : s.OnStack t s.entryFrame) (h : s.Inv) :
    t.returnFromInterrupt = { (t.pulled s.entryFrame.length).setP s.p with
      pc := s.pc, sp := s.sp, k := if s.e then t.k else s.k } := by
  have htop := ht.up_length h
  rw [State.returnFromInterrupt_eq, ht.mode, ← htop]
  cases he : s.e with
  | true =>
    have hframe : s.entryFrame = [hi s.pc, lo s.pc, s.p] := if_pos he
    rw [hframe] at ht ⊢
    have byte (i : Fin 3) := ht.stackByte h (by decide : 3 ≤ 256) i.isLt
    obtain ⟨hp, hlo, hhi⟩ : t.stackByte 1 = s.p ∧ t.stackByte 2 = lo s.pc ∧ t.stackByte 3 = hi s.pc :=
      ⟨byte 0, byte 1, byte 2⟩
    rw [hp, hlo, hhi, word_hi_lo]
    rfl
  | false =>
    have hframe : s.entryFrame = [s.k, hi s.pc, lo s.pc, s.p] := if_neg (by simp [he])
    rw [hframe] at ht ⊢
    have byte (i : Fin 4) := ht.stackByte h (by decide : 4 ≤ 256) i.isLt
    obtain ⟨hp, hlo, hhi, hk⟩ :
        t.stackByte 1 = s.p ∧ t.stackByte 2 = lo s.pc ∧ t.stackByte 3 = hi s.pc ∧ t.stackByte 4 = s.k :=
      ⟨byte 0, byte 1, byte 2, byte 3⟩
    rw [hp, hlo, hhi, hk, word_hi_lo]
    rfl

/-- Settles O59: `RTI` finds the frame on the stack, so it restores what an entry saves; nothing else was written
but `K`. -/
theorem rtiUndoesEnter : Obligations.RtiUndoesEnter := by
  unfold Obligations.RtiUndoesEnter
  intro s c v h henv
  obtain ⟨hinv, hsame⟩ := enter_writesOnly s c v h
  have hstack := h.enter_onStack henv c v
  have hrest := h.enter_of_env_nil henv c v
  have hx := hsame (.flag .x) (by simp)
  have hm := hsame (.flag .m) (by simp)
  refine ⟨(s.enter c v).returnFromInterrupt, rfl, ?_⟩
  generalize s.enter c v = t at *
  rw [hstack.returnFromInterrupt h, setP_of_inv (hinv.pulled _) hx.symm hm.symm, pulled_of_env_nil hstack.quiet, hrest]

end Sys2Proof.Machine
end

section
/-! The interrupt check, wait, stop, and a core that nothing but a reset starts again (47_system.md R272 to R275;
60_exceptions.md R284, R285, R288). -/

namespace Sys2Proof.Machine

/-! ### The interrupt check (R284) -/

/-- A pending NMI is taken and cleared, whatever `P.I` holds. -/
theorem State.interruptCheck_of_nmi {s : State} (hnmi : s.nmiPending = true) :
    s.interruptCheck = ({ s with nmiPending := false } : State).enter .hardware (nmiVector s.e) := by
  rw [State.interruptCheck, if_pos hnmi]

/-- With no NMI pending and no line asserted nothing is taken. -/
theorem State.interruptCheck_of_quiet {s : State} (hnmi : s.nmiPending = false) (hirq : s.irqLines = 0) :
    s.interruptCheck = s := by
  simp [State.interruptCheck, State.irqRequested, hnmi, hirq]

/-- Settles O56: an NMI, an unmasked line, or nothing to take. -/
theorem interruptCheckTakesOne : Obligations.InterruptCheckTakesOne := by
  unfold Obligations.InterruptCheckTakesOne
  exact fun s => ⟨State.interruptCheck_of_nmi, State.interruptCheck_of_irq, fun hnmi hnone =>
    hnone.elim (State.interruptCheck_of_quiet hnmi) (State.interruptCheck_of_masked hnmi)⟩

/-! ### Waiting (R272, R288) -/

/-- The boundary of a `WAI`: its own wake where the condition is present, else its idle cycles alone. -/
theorem State.boundary_of_waiting {s : State} (i : Instr) (hrun : s.run = .waiting) :
    s.boundary i = if s.nmiPending = true ∨ s.irqLines ≠ 0 then
        ({ s.spendIdle i with run := .running } : State).interruptCheck
      else s.spendIdle i := by
  rw [State.boundary_eq, hrun, if_neg nofun]
  by_cases hwake : s.nmiPending = true ∨ s.irqLines ≠ 0
  · rw [if_pos ⟨rfl, hwake⟩, if_pos hwake]
  · rw [if_neg fun h => hwake h.2, if_neg hwake]
    obtain ⟨hnmi, hirq⟩ : s.nmiPending = false ∧ s.irqLines = 0 := by simpa using hwake
    exact State.interruptCheck_of_quiet hnmi hirq

/-- A waiting core whose wake condition is present runs again and checks. -/
theorem step_of_wake {s : State} (hrun : s.run = .waiting) (hwake : s.nmiPending = true ∨ s.irqLines ≠ 0) :
    step s = .next ({ s with run := .running, trace := [] } : State).interruptCheck := by
  rw [step_of_waiting hrun, State.waitStep_eq, if_pos hwake]

/-- A waiting core whose wake condition is absent spends an idle cycle. -/
theorem step_of_no_wake {s : State} (hrun : s.run = .waiting) (hnmi : s.nmiPending = false) (hirq : s.irqLines = 0) :
    step s = .next ({ s with trace := [] } : State).idle := by
  rw [step_of_waiting hrun, State.waitStep_eq, if_neg (by simp [hnmi, hirq])]

/-- Settles O54: the instructions by their meanings; a waiting step by whether it wakes, and then by what the
interrupt check takes. -/
theorem waitStopAndNothing : Obligations.WaitStopAndNothing := by
  unfold Obligations.WaitStopAndNothing
  refine ⟨fun _ => rfl, fun _ _ => ⟨rfl, rfl⟩, fun _ => ⟨rfl, rfl⟩, fun s => s.boundary_of_waiting .wai,
    fun s hrun => ?stop, fun _ => step_of_no_wake, fun s hrun hnmi hirq hI => ?masked,
    fun s hrun hnmi hirq hI => ?line, fun s hrun hnmi => ?nmi, fun _ => step_of_stopped⟩
  case stop => rw [State.boundary_eq, if_pos hrun]
  case masked => exact (step_of_wake hrun (.inr hirq)).trans (congrArg _ (State.interruptCheck_of_masked hnmi hI))
  case line => exact (step_of_wake hrun (.inr hirq)).trans (congrArg _ (State.interruptCheck_of_irq hnmi hirq hI))
  case nmi => exact (step_of_wake hrun (.inl hnmi)).trans (congrArg _ (State.interruptCheck_of_nmi hnmi))

/-! ### Stopped (R273, R288, R310) -/

/-- A run whose first step answers `t` is a shorter run from `t`. -/
theorem run_succ_of_step {M : Host.Core} {s t : M.State} (h : M.step s = .next t) (n : Nat) :
    M.run (n + 1) s = M.run n t := by
  rw [Host.Core.run, h]

/-- What `n` cycles without an access leave of a state: the cycle count, the script and the lines move, and the
record is empty as soon as one step was made (R273, R283). -/
def State.idled (s : State) (n : Nat) : State := { s with
  cycles := s.cycles + n
  env := s.env.drop n
  nmiPending := (firstCalls s.env n).foldl LineCall.onNmi s.nmiPending
  irqLines := (firstCalls s.env n).foldl LineCall.onIrq s.irqLines
  trace := if n = 0 then s.trace else [] }

/-- One idle cycle and then `n` more are `n + 1`. -/
theorem State.idle_idled (s : State) (n : Nat) :
    ({ s with trace := [] } : State).idle.idled n = s.idled (n + 1) := by
  rw [State.idle_eq]
  simp [State.idled, Nat.add_comm n 1, firstCalls_add, Nat.add_assoc]

/-- A stopped core only idles, however many steps are called. -/
theorem run_of_stopped (n : Nat) {s : State} (hrun : s.run = .stopped) : core.run n s = .next (s.idled n) := by
  induction n generalizing s with
  | zero => simp [Host.Core.run, State.idled, firstCalls]
  | succ n ih =>
    calc core.run (n + 1) s
      _ = core.run n ({ s with trace := [] } : State).idle := run_succ_of_step (step_of_stopped hrun) n
      _ = .next (({ s with trace := [] } : State).idle.idled n) := ih hrun
      _ = .next (s.idled (n + 1)) := congrArg _ (s.idle_idled n)

/-- Settles O55: each step of a stopped core is one idle cycle, which leaves it stopped; a reset writes the run
state. -/
theorem stoppedUntilReset : Obligations.StoppedUntilReset := by
  unfold Obligations.StoppedUntilReset
  exact ⟨fun n s hrun => ⟨s.idled n, run_of_stopped n hrun, rfl⟩, fun _ => rfl⟩

end Sys2Proof.Machine
end

section
/-! What an interrupt entry saves and where it goes (47_system.md R270, R271; 60_exceptions.md R285, R286). -/

namespace Sys2Proof.Machine

/-! ### Pushed bytes with their addresses -/

/-- The bytes `l` with the stack addresses that their pushes write (R200). -/
def State.placed (s : State) (l : List Byte) : List (Addr × Byte) := l.mapIdx fun j b => (s.slot j, b)

theorem State.map_fst_placed (s : State) (l : List Byte) :
    (s.placed l).map Prod.fst = (List.range l.length).map s.slot := by
  apply List.ext_getElem <;> simp [State.placed]

theorem State.pushWrites_eq_map_placed (s : State) (l : List Byte) :
    s.pushWrites l = (s.placed l).map fun x => .write .data x.1 x.2 := by
  apply List.ext_getElem <;> simp [State.placed, State.pushWrites]

/-- Up to 256 pushed bytes read back, each at its address. -/
theorem State.Inv.read_placed {s : State} (h : s.Inv) {l : List Byte} (hl : l.length ≤ 256) :
    ∀ x ∈ s.placed l, Memory.read (s.pushed l).mem x.1.toNat = x.2 := by
  intro x hx
  obtain ⟨i, hlt, rfl⟩ := List.mem_mapIdx.mp hx
  exact h.read_pushed hl hlt

/-! ### The frame of an entry (R286) -/

theorem State.entryFrame_length_le (s : State) : s.entryFrame.length ≤ 256 := by
  unfold State.entryFrame
  split <;> simp

/-- Where the bytes of the frame lie: from `S` on downwards. -/
theorem State.Inv.placed_entryFrame {s : State} (h : s.Inv) : s.placed s.entryFrame =
    if s.e then [(addr 0x00 s.sp, hi s.pc), (s.slot 1, lo s.pc), (s.slot 2, s.p)]
    else [(addr 0x00 s.sp, s.k), (s.slot 1, hi s.pc), (s.slot 2, lo s.pc), (s.slot 3, s.p)] := by
  rw [← h.slot_zero, State.entryFrame]
  split <;> rfl

/-- The stack pointer under the frame. -/
theorem State.down_entryFrame_length (s : State) :
    s.down (BitVec.ofNat 16 s.entryFrame.length) = if s.e then s.down 3 else s.down 4 := by
  rw [State.entryFrame]
  split <;> rfl

/-- An entry leaves in memory the frame that it pushed. -/
theorem State.Inv.enter_mem {s : State} (h : s.Inv) (cause : EntryCause) (v : Word) :
    (s.enter cause v).mem = (s.pushed s.entryFrame).mem := by
  rw [h.enter_eq]
  rfl

theorem State.Inv.enter_p {s : State} (h : s.Inv) (cause : EntryCause) (v : Word) :
    (s.enter cause v).p = (s.p ||| maskI) &&& ~~~maskD := by
  rw [h.enter_eq]
  rfl

/-- Settles O57: the writes are the pushes of the frame, from the top of the stack down; the vector is read in the
state they leave. -/
theorem enterSavesAndVectors : Obligations.EnterSavesAndVectors := by
  unfold Obligations.EnterSavesAndVectors
  intro s c v h a0 a1 a2 a3 frame saved v0 v1
  have hframe : frame = s.placed s.entryFrame := h.placed_entryFrame.symm
  have hsaved : saved = s.entered := by
    simp only [saved]
    rw [hframe, ← State.pushWrites_eq_map_placed, ← State.down_entryFrame_length]
    rfl
  refine ⟨?whole, ?saved, ?rest⟩
  case whole => rw [h.enter_eq, State.read16_eq, hsaved]; rfl
  case saved => rw [hframe, h.enter_mem]; exact h.read_placed s.entryFrame_length_le
  case rest =>
    rw [hframe, State.map_fst_placed, State.SameOutside, h.enter_mem]
    exact h.sameOutside_pushed s.entryFrame

/-! ### Software interrupts (R270, R271) -/

theorem State.slot_toNat (s : State) (n : Nat) : (s.slot n).toNat = (s.down (BitVec.ofNat 16 n)).toNat := by
  simp [State.slot, addr_toNat]

/-- `P` is the last byte of the frame, so it lies lowest. -/
theorem State.Inv.read_entryFrame_p {s : State} (h : s.Inv) :
    Memory.read (s.pushed s.entryFrame).mem (if s.e then s.down 2 else s.down 3).toNat = s.p := by
  have hplaced := h.placed_entryFrame
  have hread := h.read_placed s.entryFrame_length_le
  cases he : s.e with
  | true => exact (s.slot_toNat 2) ▸ hread (s.slot 2, s.p) (by simp [hplaced, he])
  | false => exact (s.slot_toNat 3) ▸ hread (s.slot 3, s.p) (by simp [hplaced, he])

/-- Settles O58: both instructions enter; of the flags an entry writes `I` and `D` only. -/
theorem brkAndCopEnter : Obligations.BrkAndCopEnter := by
  unfold Obligations.BrkAndCopEnter
  refine ⟨fun _ => rfl, fun _ _ => ⟨rfl, rfl⟩, fun s v h => ?entry⟩
  case entry =>
    intro t
    obtain ⟨-, hsame⟩ := enter_writesOnly s .software v h
    have hp : t.p = (s.p ||| maskI) &&& ~~~maskD := h.enter_p .software v
    have hk : t.k = 0x00 := rfl
    refine ⟨?_, ?_, hk, hsame .e (by simp), hsame (.flag .m) (by simp), hsame (.flag .x) (by simp), ?_,
      fun he => (h.emulationFlags he).2⟩
    · simp [State.flagI, hp, maskI, maskD]
    · simp [State.flagD, hp, maskD]
    · rw [h.enter_mem]
      exact h.read_entryFrame_p

end Sys2Proof.Machine
end

section
/-! The line interface (60_exceptions.md R281 to R283). -/

namespace Sys2Proof.Machine

/-- Setting a source sets its bit alone (R282). -/
theorem testBit_irqSet (lines n j : Nat) : (irqSet lines n).testBit j = (lines.testBit j || decide (j = n)) := by
  rw [irqSet, Nat.testBit_or, Nat.one_shiftLeft, Nat.testBit_two_pow]
  simp only [eq_comm]

/-- Clearing a source clears its bit alone (R282). -/
theorem testBit_irqClear (lines n j : Nat) :
    (irqClear lines n).testBit j = (lines.testBit j && decide (j ≠ n)) := by
  unfold irqClear
  by_cases hj : j = n
  · subst hj
    split <;> simp_all [Nat.one_shiftLeft]
  · split <;> simp [Nat.one_shiftLeft, hj, Ne.symm hj]

section
variable {n : Nat} (s : State)

theorem assertIrq_of_lt (hn : n < Config.irqSources) :
    assertIrq n s = .next { s with irqLines := irqSet s.irqLines n } :=
  if_pos hn

theorem clearIrq_of_lt (hn : n < Config.irqSources) :
    clearIrq n s = .next { s with irqLines := irqClear s.irqLines n } :=
  if_pos hn

theorem isIrqAsserted_of_lt (hn : n < Config.irqSources) : isIrqAsserted n s = .next (s.irqLines.testBit n) :=
  if_pos hn

end

/-- Settles O60: each call by whether its id is in range; a call during an access computes the same bitmask. -/
theorem lineInterface : Obligations.LineInterface := by
  unfold Obligations.LineInterface
  refine ⟨fun _ => ⟨rfl, rfl⟩, fun n s hn => ?inRange, fun n s hn => ?outside, fun s => ?requested,
    fun s => ⟨rfl, fun n => ⟨assertIrq_of_lt s n.isLt, clearIrq_of_lt s n.isLt⟩⟩⟩
  case inRange =>
    exact ⟨⟨_, assertIrq_of_lt s hn, rfl, testBit_irqSet s.irqLines n⟩,
      ⟨_, clearIrq_of_lt s hn, rfl, testBit_irqClear s.irqLines n⟩, isIrqAsserted_of_lt s hn⟩
  case outside =>
    have hout : ¬ n < Config.irqSources := Nat.not_lt.mpr hn
    exact ⟨if_neg hout, if_neg hout, if_neg hout⟩
  case requested => exact by simp [State.irqRequested, bne, beq_eq_decide]

end Sys2Proof.Machine
end

section
/-! Reset and power-on, field by field (70_reset_and_hazards.md R310, R311; 10_state.md R45). -/

namespace Sys2Proof.Machine

/-- The state whose vector a reset reads: its registers are set and its record is empty (R310). -/
def State.resetting (s : State) : State := { s.resetRegisters with trace := [] }

/-- A reset: its registers, and then its two vector reads, low byte first (R310). -/
theorem State.resetCore_eq (s : State) : s.resetCore =
    { s.resetting.accessed [.read .data 0x00FFFC (s.answer 0 0x00FFFC), .read .data 0x00FFFD (s.answer 1 0x00FFFD)]
      with pc := word (s.answer 1 0x00FFFD) (s.answer 0 0x00FFFC) } := by
  have hlow : addr 0x00 resetVector = 0x00FFFC := by decide
  have hhigh : addr 0x00 (resetVector + 1) = 0x00FFFD := by decide
  rw [State.resetCore, State.read16_eq, hlow, hhigh]
  rfl

/-- No step leaves `Stopped` (R310). -/
theorem step_run_of_stopped {s t : State} (hrun : s.run = .stopped) (hstep : step s = .next t) : t.run = .stopped := by
  obtain rfl := Host.Outcome.next.inj ((step_of_stopped hrun).symm.trans hstep)
  exact hrun

/-- The flags that a reset writes (R310). -/
theorem resetP_flags (p : Byte) :
    (resetP p).getLsbD 5 = true ∧ (resetP p).getLsbD 4 = true ∧ (resetP p).getLsbD 2 = true ∧
      (resetP p).getLsbD 3 = false := by
  simp [resetP, maskM, maskX, maskI, maskD]

/-- Of the flags a reset writes `M`, `X`, `I` and `D` only (R310). -/
theorem resetP_getLsbD (p : Byte) {f : StatusFlag} (hf : f ∉ [StatusFlag.m, .x, .i, .d]) :
    (resetP p).getLsbD f.bit = p.getLsbD f.bit := by
  cases f <;> simp_all [resetP, maskM, maskX, maskI, maskD, StatusFlag.bit]

/-- The drawn flags each stand in their own bit (R45). -/
theorem ResetDraw.flags_getLsbD (w : ResetDraw) :
    w.flags.getLsbD 0 = w.c ∧ w.flags.getLsbD 1 = w.z ∧ w.flags.getLsbD 6 = w.v ∧ w.flags.getLsbD 7 = w.n := by
  simp (disch := decide) only [ResetDraw.flags, getLsbD_withMask_of_notMem, getLsbD_withMask_of_mem, and_self]

/-- Settles O11: a power-on is a reset of the drawn registers, and the flags a draw sets are those a reset leaves. -/
theorem resetAndPowerOn : Obligations.ResetAndPowerOn := by
  unfold Obligations.ResetAndPowerOn
  refine ⟨State.resetCore_eq, fun _ _ => step_run_of_stopped, fun w mem env => ?powerOn⟩
  case powerOn =>
    rw [State.powerOn, State.resetCore_eq]
    intro t b
    have hx : t.x = 0x00#8 ++ w.xl := congrArg (word 0x00) (lo_word 0x00 w.xl)
    have hy : t.y = 0x00#8 ++ w.yl := congrArg (word 0x00) (lo_word 0x00 w.yl)
    have hsp : t.sp = 0x01#8 ++ w.sl := congrArg (word 0x01) (lo_word 0x01 w.sl)
    obtain ⟨hM, hX, hI, hD⟩ := resetP_flags w.flags
    obtain ⟨hC, hZ, hV, hN⟩ := w.flags_getLsbD
    have kept (f : StatusFlag) := resetP_getLsbD w.flags (f := f)
    exact ⟨rfl, hx, hy, hsp, rfl, rfl, rfl, rfl, rfl, rfl, rfl, rfl, rfl, rfl, rfl, rfl, hM, hX, hI, hD,
      (kept .c (by simp)).trans hC, (kept .z (by simp)).trans hZ, (kept .v (by simp)).trans hV,
      (kept .n (by simp)).trans hN⟩

/-- Settles O12: both sides are closed and evaluate to the same state. -/
theorem resetStateIsANamedDraw : Obligations.ResetStateIsANamedDraw := by
  unfold Obligations.ResetStateIsANamedDraw
  decide

end Sys2Proof.Machine
end
